-- ==== Sys2Proof/Word.lean ====
section
/-! DEFINITION. The word types of the core: every register the spec gives a fixed width is a bit vector of that width (00_scope R18, R19, R20). -/

namespace Sys2Proof

/-- A command word (R76) or the byte engine's shift register (R43). -/
abbrev Byte := BitVec 8

/-- The raw word, the response data and the fault code (R18, R19). -/
abbrev Word := BitVec 16

/-- The decoded field raw[15:3] and a window slot: 13 bits (R19). -/
abbrev Decoded := BitVec 13

/-- A logical or effective device index: one bit (R78, R91). -/
abbrev DevIdx := BitVec 1

/-- The least w with 2^w > n: the width the spec gives a counter that holds 0 to n (R41, R45). -/
def leastWidth (n : Nat) : Nat := if n = 0 then 0 else Nat.log2 n + 1

end Sys2Proof
end

