-- ==== Sys2Proof/Config.lean ====
section
/-! DEFINITION. What is fixed when the block is built (00_scope R9 to R19), what the environment supplies in one cycle (R7), and the free values. -/

namespace Sys2Proof

/-- DEVICE_COUNT ∈ {1, 2} (R9). -/
inductive DeviceCount where
  | one
  | two
deriving DecidableEq, Repr

def DeviceCount.toNat : DeviceCount → Nat
  | .one => 1
  | .two => 2

/-- ABSENT_SELECT (R17): what selecting logical device 1 does when DEVICE_COUNT = 1. -/
inductive AbsentSelect where
  | aliasLine0
  | noop
deriving DecidableEq, Repr

/-- The parameters of R9 to R17 and F_CLK of R13. No instruction and no cycle changes them (R58). -/
structure Params where
  /-- R9 -/
  deviceCount : DeviceCount
  /-- R10 -/
  avgEnabled : Bool
  /-- R11, the source's k; the window has 2^k slots -/
  windowBits : Nat
  /-- R12 -/
  sckDiv : Nat
  /-- R13 -/
  cSettle : Nat
  /-- R13 -/
  cStart : Nat
  /-- R13 -/
  cConv : Nat
  /-- R13 -/
  cLatch : Nat
  /-- R14 -/
  cSetup : Nat
  /-- R15; `none` is NONE -/
  busTimeout : Option Nat
  /-- R16 -/
  busTimeoutCode : Word
  /-- R17 -/
  absentSelect : AbsentSelect
  /-- F_CLK of R13, in cycles a second; only the nominal delays below read it -/
  fClk : Nat
deriving DecidableEq, Repr

/-- The constraints the rules R11 to R16 put on the parameters. -/
def Params.wf (p : Params) : Bool :=
  (1 ≤ p.sckDiv) && (1 ≤ p.cSettle) && (1 ≤ p.cStart) && (1 ≤ p.cConv) && (1 ≤ p.cLatch) &&
  (1 ≤ p.cSetup) &&
  (match p.busTimeout with
   | none => true
   | some t => 16 * p.sckDiv < t) &&
  (0x1FFF < p.busTimeoutCode.toNat) && (p.busTimeoutCode != 0xFFFF#16)

/-- N = 2^k (R11). -/
def Params.windowSize (p : Params) : Nat := 2 ^ p.windowBits

/-- SUM_W = 13 + k (R19). -/
def Params.sumWidth (p : Params) : Nat := 13 + p.windowBits

/-- The largest value a wait state loads into `dly_cnt` (R23, R41). -/
def Params.maxDelay (p : Params) : Nat :=
  max p.cSettle (max p.cStart (max p.cConv (max p.cLatch p.cSetup))) - 1

/-- DLY_W (R41). -/
def Params.dlyWidth (p : Params) : Nat := leastWidth p.maxDelay

/-- The width of `div_cnt` (R45). -/
def Params.divWidth (p : Params) : Nat := leastWidth (p.sckDiv - 1)

/-- A nominal time in milliseconds as a number of cycles at F_CLK (R13). -/
def Params.nominalCycles (p : Params) (ms : Nat) : Nat := ms * p.fClk / 1000

/-- The parameters have the values the source's approximate times intend (R13, R181). No rule depends on it. -/
def Params.nominal (p : Params) : Bool :=
  p.cSettle == p.nominalCycles 2 && p.cStart == p.nominalCycles 2 &&
  p.cConv == p.nominalCycles 220 && p.cLatch == p.nominalCycles 2

/-- LINE_CODE (R18). -/
def lineCode : Word := 0xFFFF#16

/-- RANGE_SENTINEL (R18). -/
def rangeSentinel : Word := 0x0FFF#16

/-- RANGE_LO (R18). -/
def rangeLo : Decoded := 10#13

/-- RANGE_HI (R18). -/
def rangeHi : Decoded := 1200#13

/-- INIT_VALUE (R18). -/
def initValue : Decoded := 100#13

/-- The open-circuit flag's bit position in the raw word (R18). -/
def openBit : Nat := 2

/-- The decode shift (R18). -/
def decodeShift : Nat := 3

/-- What the environment drives on the core's input ports in one cycle: `rst` (R25), `cmd_valid` and `cmd` (R26), `miso` (R32), `bus_ready` (R35). -/
structure Inputs where
  rst : Bool
  cmdValid : Bool
  cmd : Byte
  miso : Bool
  busReady : Bool
deriving DecidableEq, Repr, Inhabited

namespace Config

/-- DESIGN CHOICE (log 2): the block that `State.reset` is reset in. The values are the defaults of 95_test_vectors.md ("Unless a vector says otherwise, the parameters are …") and of R15 to R17; WINDOW_BITS and F_CLK, which those defaults leave out, are 0 and 1000. No statement rests on a value here: State carries the parameters. -/
def defaultParams : Params where
  deviceCount := .two
  avgEnabled := false
  windowBits := 0
  sckDiv := 1
  cSettle := 1
  cStart := 1
  cConv := 1
  cLatch := 1
  cSetup := 1
  busTimeout := none
  busTimeoutCode := 0xFFFE#16
  absentSelect := .aliasLine0
  fClk := 1000

/-- Free value (log 5): the inputs of cycle n where State lists none (R7, R32, R35: environment draws). -/
opaque drawInputs : Nat → Inputs

/-- Free value (log 4): does SETUP_INIT write slot (d, i) in cycle n before its last cycle (R140: "over these cycles in any order")? Arguments: n, d, i. -/
opaque initWritesSlot : Nat → Nat → Nat → Bool

/-- Free value (log 4): does SETUP_INIT write head[d] in cycle n before its last cycle? Arguments: n, d. -/
opaque initWritesHead : Nat → Nat → Bool

/-- Free value (log 4): does SETUP_INIT write sum[d] in cycle n before its last cycle? Arguments: n, d. -/
opaque initWritesSum : Nat → Nat → Bool

end Config

end Sys2Proof
end

