-- ==== Sys2Proof/Syntax.lean ====
section
/-! DEFINITION. The instructions: one constructor for each row of spec/opcode_table.json (30_encoding R77, R88, R90). -/

namespace Sys2Proof

/-- The three host commands of R77 and the six internal operations of R88. -/
inductive Instr where
  /-- SETUP (R139) -/
  | setup
  /-- START_ALL (R96) -/
  | startAll
  /-- READ dev (R141); `dev` is the word's bit 0, zero-extended (R78) -/
  | read (dev : DevIdx)
  /-- SELECT(dev, active) (R92) -/
  | select (dev : DevIdx) (active : Bool)
  /-- XFER_BYTE (R104) -/
  | xferByte
  /-- READ_RAW(dev) (R110) -/
  | readRaw (dev : DevIdx)
  /-- CLASSIFY(raw) (R119) -/
  | classify (raw : Word)
  /-- AVG_INIT (R128) -/
  | avgInit
  /-- AVG_UPDATE(d, v) (R129) -/
  | avgUpdate (d : DevIdx) (v : Decoded)
deriving DecidableEq, Repr

/-- Can the host issue it (R77), or only the sequencer (R88)? -/
def Instr.isCommand : Instr → Bool
  | .setup => true
  | .startAll => true
  | .read _ => true
  | .select _ _ => false
  | .xferByte => false
  | .readRaw _ => false
  | .classify _ => false
  | .avgInit => false
  | .avgUpdate _ _ => false

end Sys2Proof
end

