-- ==== Sys2Proof/WellFormed.lean ====
section
/-! DEFINITION. Which terms of `Instr` the spec admits. -/

namespace Sys2Proof

/-- The one constraint an operand's width does not already state: AVG_UPDATE's v is "the 13-bit decoded value of a Valid classification, so 10 ≤ v ≤ 1200" (R129). -/
def Instr.wellFormed : Instr → Bool
  | .setup => true
  | .startAll => true
  | .read _ => true
  | .select _ _ => true
  | .xferByte => true
  | .readRaw _ => true
  | .classify _ => true
  | .avgInit => true
  | .avgUpdate _ v => rangeLo.toNat ≤ v.toNat && v.toNat ≤ rangeHi.toNat

end Sys2Proof
end

