-- ==== Sys2Proof/Decode.lean ====
section
/-! DEFINITION. The command decoder, total on all 256 words (30_encoding R76 to R83), and the encoder written from the same tables. -/

namespace Sys2Proof

/-- Why a word is illegal: the three kinds R80 lists. -/
inductive IllegalWord where
  /-- RSV ≠ 0b000 (R79) -/
  | reservedBits
  /-- OPC ∈ {0x1, 0x2} with DEV = 1 -/
  | devWithoutOperand
  /-- OPC ∈ {0x0, 0x4, …, 0xF} -/
  | unusedOpcode
deriving DecidableEq, Repr

/-- What a word decodes to. -/
inductive DecodeResult where
  | instr (i : Instr)
  | illegal (why : IllegalWord)
deriving DecidableEq, Repr

/-- Field OPC of format C8 (R76). -/
def fieldOpc (c : Byte) : BitVec 4 := c.extractLsb' 4 4

/-- Field RSV of format C8 (R76). -/
def fieldRsv (c : Byte) : BitVec 3 := c.extractLsb' 1 3

/-- Field DEV of format C8 (R76, R78). -/
def fieldDev (c : Byte) : DevIdx := c.extractLsb' 0 1

/-- The decoder of R83: the reserved bits first, then the opcode map of R77. -/
def decode (c : Byte) : DecodeResult :=
  if fieldRsv c ≠ 0 then .illegal .reservedBits
  else if fieldOpc c = 0x1 then
    if fieldDev c = 0 then .instr .setup else .illegal .devWithoutOperand
  else if fieldOpc c = 0x2 then
    if fieldDev c = 0 then .instr .startAll else .illegal .devWithoutOperand
  else if fieldOpc c = 0x3 then .instr (.read (fieldDev c))
  else .illegal .unusedOpcode

/-- The instruction a result holds, if the word is legal. -/
def DecodeResult.instr? : DecodeResult → Option Instr
  | .instr i => some i
  | .illegal _ => none

/-- The table's numbering: one 8-bit word, bit 0 the least significant (R20, R82). A wider number is no command. -/
def decodeTableWord (nbits w : Nat) : Option Instr :=
  if nbits ≤ 8 ∧ w < 256 then (decode (BitVec.ofNat 8 w)).instr? else none

/-- A word of format C8: OPC, RSV = 0b000, DEV (R76, R79). -/
def wordC8 (opc : BitVec 4) (dev : DevIdx) : Byte := opc ++ 0#3 ++ dev

/-- The word of a command (R77). An internal operation has none (R88). -/
def encode : Instr → Option Byte
  | .setup => some (wordC8 0x1 0)
  | .startAll => some (wordC8 0x2 0)
  | .read dev => some (wordC8 0x3 dev)
  | .select _ _ => none
  | .xferByte => none
  | .readRaw _ => none
  | .classify _ => none
  | .avgInit => none
  | .avgUpdate _ _ => none

end Sys2Proof
end

