-- ==== Sys2Proof/Machine/State.lean ====
section
/-! DEFINITION. The machine's state: every register of 10_state.md, the window storage, the record R56 asks a model to keep for each sensor, the block's parameters, and the model's own fields. -/

namespace Sys2Proof.Machine

/-- The sequencer's states (R38). The unused codes 0xA to 0xF are left out (R38, ID22; log 11). -/
inductive Fsm where
  | idle
  | selected
  | latched
  | byteMsb
  | byteLsb
  | deselected
  | setupInit
  | saDesel
  | saAssert
  | saConv
deriving DecidableEq, Repr

/-- The boot phase (R39). Code 3 is left out (R39, ID22; log 11). -/
inductive Phase where
  | unconfigured
  | configured
  | started
deriving DecidableEq, Repr

/-- The classes of R119. -/
inductive Class where
  | valid (dec : Decoded)
  | lineFault
  | rangeFault (dec : Decoded)
deriving DecidableEq, Repr

/-- What an internal operation returns to the sequencer (R119, R129). -/
inductive OpResult where
  | nothing
  /-- CLASSIFY's class -/
  | classified (c : Class)
  /-- AVG_UPDATE's mean -/
  | mean (m : Decoded)
deriving DecidableEq, Repr

/-- One device's window: the slots of R53, the pointer of R54, the sum register of R55. -/
structure Window where
  slots : List Decoded
  head : Nat
  sum : Nat
deriving DecidableEq, Repr

/-- What R56 asks a model to keep for a sensor: has a conversion been started by a 0→1 edge of its line, and how many cycles ago was the last such edge? -/
structure Sensor where
  inFlight : Bool
  sinceEdge : Nat
deriving DecidableEq, Repr

structure State where
  /-- the parameters of the block (R9 to R17); constant -/
  params : Params
  /-- R38 -/
  fsm : Fsm
  /-- R39 -/
  phase : Phase
  /-- R40 -/
  curDev : DevIdx
  /-- R41 -/
  dlyCnt : Nat
  /-- R42 -/
  sr : Word
  /-- R43 -/
  rxByte : Byte
  /-- R44 -/
  bitCnt : BitVec 3
  /-- R45 -/
  divCnt : Nat
  /-- R46 -/
  xferActive : Bool
  /-- R47, the ready signal -/
  xferDone : Bool
  /-- R48 -/
  toCnt : Nat
  /-- R49 -/
  toFlag : Bool
  /-- R50; element d is cs_n[d], true when deasserted -/
  csN : List Bool
  /-- R50 -/
  sck : Bool
  /-- R50 -/
  mosi : Bool
  /-- R50 -/
  busLock : Bool
  /-- R51 -/
  rspValid : Bool
  /-- R51 -/
  rspStatus : BitVec 2
  /-- R51 -/
  rspData : Word
  /-- R52 -/
  faultValid : Bool
  /-- R52 -/
  faultCode : Word
  /-- R53 to R55: one window for each device when AVG_ENABLED, none otherwise -/
  windows : List Window
  /-- R56: one record for each sensor; outside the core -/
  sensors : List Sensor
  /-- the model's own: the inputs of this cycle (the first entry) and of the cycles to come (log 5) -/
  env : List Inputs
  /-- the model's own: the number the free values are applied to (logs 4 and 5) -/
  cycle : Nat
  /-- the model's own: what the internal operation performed last returned; no register (log 12) -/
  result : OpResult
deriving DecidableEq, Repr

/-- Why a step stops. The core itself has no trap and no fatal condition (R155, R158). -/
inductive Fault where
  /-- Raised by AVG_UPDATE on a window access (d, i) to a slot R62 says does not exist, in a state whose window storage has not the shape of R62. No reachable state raises it. Safe. -/
  | noSuchSlot (d i : Nat)
deriving DecidableEq, Repr

/-- Why an instruction has no meaning. -/
inductive Refusal where
  /-- Raised by an arm of `exec` whose instruction has no meaning yet; no arm does. Safe. -/
  | notModelled (mnemonic : String)
deriving DecidableEq, Repr

/-- What every step and every meaning answers. -/
abbrev Outcome := Host.Outcome State Fault Refusal

/-- The window storage of a block before the first SETUP: every slot, head and sum zero. DESIGN CHOICE (log 3); the spec leaves it UNSPECIFIED and never read (R53 to R55, R60). -/
def blankWindows (p : Params) : List Window :=
  if p.avgEnabled then
    List.replicate p.deviceCount.toNat
      { slots := List.replicate p.windowSize 0, head := 0, sum := 0 }
  else []

/-- A block of the parameters p right after reset: R169 for every register the spec resets, log 3 for the windows, log 7 for the sensors' records, log 5 for the model's own fields. -/
def State.resetWith (p : Params) : State where
  params := p
  fsm := .idle
  phase := .unconfigured
  curDev := 0
  dlyCnt := 0
  sr := 0
  rxByte := 0
  bitCnt := 0
  divCnt := 0
  xferActive := false
  xferDone := false
  toCnt := 0
  toFlag := false
  csN := List.replicate p.deviceCount.toNat true
  sck := false
  mosi := false
  busLock := false
  rspValid := false
  rspStatus := 0
  rspData := 0
  faultValid := false
  faultCode := 0
  windows := blankWindows p
  sensors := List.replicate p.deviceCount.toNat { inFlight := false, sinceEdge := 0 }
  env := []
  cycle := 0
  result := .nothing

/-- The machine right after reset, as a block of the default parameters (log 2). -/
def State.reset : State := State.resetWith Config.defaultParams

end Sys2Proof.Machine
end

