-- ==== Sys2Proof/Machine/Operands.lean ====
section
/-! DEFINITION. The operand forms: the effective device (R91), the routing of a logical device to a line (R92 to R94), the decoded field (R87, R121), the two's-complement reading of a result (R147), and the codes of the sequencer registers (R38, R39, R84). -/

namespace Sys2Proof.Machine

/-- eff(dev) (R91): the index that keys per-device state. -/
def eff (p : Params) (dev : DevIdx) : Nat :=
  if dev.toNat < p.deviceCount.toNat then dev.toNat else 0

/-- The line SELECT drives for a logical device, if it drives one (R92, R93, R94). -/
def lineOf (p : Params) (dev : DevIdx) : Option Nat :=
  if dev.toNat < p.deviceCount.toNat then some dev.toNat
  else match p.absentSelect with
    | .aliasLine0 => some 0
    | .noop => none

/-- dec = raw >> 3 (R121): a logical shift; the 13-bit field raw[15:3]. -/
def decodedField (raw : Word) : Decoded := (raw >>> decodeShift).setWidth 13

/-- zext16 of a 13-bit value (R21, R85, R86). -/
def zext16 (v : Decoded) : Word := v.setWidth 16

/-- int16 (R21, R147): how the host reads `rsp_data` and `fault_code`. -/
def int16 (v : Word) : Int := v.toInt

/-- The 4-bit code of a sequencer state (R38). -/
def Fsm.code : Fsm → BitVec 4
  | .idle => 0x0
  | .selected => 0x1
  | .latched => 0x2
  | .byteMsb => 0x3
  | .byteLsb => 0x4
  | .deselected => 0x5
  | .setupInit => 0x6
  | .saDesel => 0x7
  | .saAssert => 0x8
  | .saConv => 0x9

/-- The 2-bit code of a phase (R39). -/
def Phase.code : Phase → BitVec 2
  | .unconfigured => 0
  | .configured => 1
  | .started => 2

/-- The response statuses (R84). -/
inductive Status where
  | done
  | illegal
  | order
deriving DecidableEq, Repr

/-- The 2-bit code of a status (R84); 0b11 is no status. -/
def Status.code : Status → BitVec 2
  | .done => 0b00
  | .illegal => 0b01
  | .order => 0b10

end Sys2Proof.Machine
end

