-- ==== Sys2Proof/Machine/Flags.lean ====
section
/-! DEFINITION. Every one-bit condition the spec computes. The core has no condition codes (R57): these are the detectors of the classifier (R120, R122), the phase check (R137) and `cmd_ready` (R34). -/

namespace Sys2Proof.Machine

/-- The line-fault detector (R120). -/
def lineDetect (raw : Word) : Bool :=
  raw == 0x0000#16 || raw == 0xFFFF#16 || raw.getLsbD openBit

/-- The range comparator (R122), on the decoded field; unsigned. -/
def rangeDetect (dec : Decoded) : Bool := dec.ult rangeLo || rangeHi.ult dec

/-- The phase check (R137): may a command run in a phase? Internal operations are not checked. -/
def phaseAllows (ph : Phase) : Instr → Bool
  | .setup => true
  | .startAll => ph != .unconfigured
  | .read _ => ph == .started
  | .select _ _ => true
  | .xferByte => true
  | .readRaw _ => true
  | .classify _ => true
  | .avgInit => true
  | .avgUpdate _ _ => true

/-- The inputs of the current cycle: what `env` lists, else a free value (log 5). -/
def State.inputs (s : State) : Inputs :=
  match s.env with
  | i :: _ => i
  | [] => Config.drawInputs s.cycle

/-- `cmd_ready` (R34). -/
def State.cmdReady (s : State) : Bool := s.fsm == .idle && !s.inputs.rst

end Sys2Proof.Machine
end

