-- ==== Sys2Proof/Machine/Ops.lean ====
section
/-! DEFINITION. The named operations every meaning and every cycle is built from: outcomes in sequence, the pulses, the response and the fault event, the wait states, the select lines, the window storage, the sensors' record, and the end of a cycle. -/

namespace Sys2Proof.Machine

/-- Go on from a next state (or from what an operation hands on); a stop stays a stop. -/
def andThen {α β : Type} (o : Host.Outcome α Fault Refusal) (f : α → Host.Outcome β Fault Refusal) :
    Host.Outcome β Fault Refusal :=
  match o with
  | .next a => f a
  | .fault r => .fault r
  | .refused r => .refused r

/-! ## Responses and fault events -/

/-- The pulses fall in every cycle that does not set them (R51, R52). -/
def State.clearPulses (s : State) : State :=
  { s with rspValid := false, faultValid := false }

/-- respond(status, data) (R138). -/
def State.respond (st : Status) (data : Word) (s : State) : State :=
  { s with rspValid := true, rspStatus := st.code, rspData := data }

/-- raise Fault(code) (R153). -/
def State.raiseFault (code : Word) (s : State) : State :=
  { s with faultValid := true, faultCode := code }

/-- How the core takes any of its three faults (R142, R149, R155): the event and the sentinel response at one edge, no state saved, no redirection. There is no return (R156). -/
def State.takeFault (code sentinel : Word) (s : State) : State :=
  (s.raiseFault code).respond .done sentinel

/-- A legal command the phase check refuses (R137). -/
def State.refuseOrder (s : State) : State := s.respond .order 0

/-- An illegal word (R136). -/
def State.refuseIllegal (s : State) : State := s.respond .illegal 0

/-! ## Wait states (R23) -/

/-- Enter a wait state with count c. -/
def State.enterWait (c : Nat) (f : Fsm) (s : State) : State :=
  { s with dlyCnt := c - 1, fsm := f }

/-- One cycle of a wait state: leave it by `leave` when the count is over, else count down. -/
def State.wait (leave : State → State) (s : State) : State :=
  if s.dlyCnt = 0 then leave s else { s with dlyCnt := s.dlyCnt - 1 }

/-! ## Select lines -/

/-- The lines after SELECT(dev, active) (R92 to R94): active-low; nothing is written where the device has no line. -/
def driveLine (p : Params) (dev : DevIdx) (active : Bool) (lines : List Bool) : List Bool :=
  match lineOf p dev with
  | some l => lines.set l (!active)
  | none => lines

/-- SELECT(dev, active) (R92). -/
def State.selectLine (dev : DevIdx) (active : Bool) (s : State) : State :=
  { s with csN := driveLine s.params dev active s.csN }

/-- Every line deasserted (R139, R169). -/
def State.deselectAll (s : State) : State :=
  { s with csN := List.replicate s.params.deviceCount.toNat true }

/-! ## Window storage (R53 to R55, R62) -/

/-- A window as AVG_INIT leaves it (R128). -/
def initWindow (p : Params) : Window where
  slots := List.replicate p.windowSize initValue
  head := 0
  sum := initValue.toNat <<< p.windowBits

/-- AVG_INIT (R128): without storage it has no effect. -/
def State.initWindows (s : State) : State :=
  { s with
    windows := if s.params.avgEnabled then List.replicate s.params.deviceCount.toNat (initWindow s.params)
      else s.windows }

/-- The slots of device d after a cycle of SETUP_INIT that is not its last (R140; free, log 4): from slot i on. -/
def partInitSlots (n d : Nat) : Nat → List Decoded → List Decoded
  | _, [] => []
  | i, x :: xs => (if Config.initWritesSlot n d i then initValue else x) :: partInitSlots n d (i + 1) xs

/-- The windows after a cycle of SETUP_INIT that is not its last (R140; free, log 4): from device d on. -/
def partInitWindows (p : Params) (n : Nat) : Nat → List Window → List Window
  | _, [] => []
  | d, w :: ws =>
    { slots := partInitSlots n d 0 w.slots
      head := if Config.initWritesHead n d then 0 else w.head
      sum := if Config.initWritesSum n d then initValue.toNat <<< p.windowBits else w.sum } ::
    partInitWindows p n (d + 1) ws

/-- A window after AVG_UPDATE inserts v where `old` stands, and the mean it returns (R129). -/
def Window.insert (k : Nat) (old v : Decoded) (w : Window) : Window × Decoded :=
  let newsum := (w.sum + v.toNat) - old.toNat
  ({ slots := w.slots.set w.head v, head := (w.head + 1) % 2 ^ k, sum := newsum },
   BitVec.ofNat 13 (newsum >>> k))

/-- WinRead(d, i) (R22): none where slot (d, i) does not exist (R62). -/
def State.winRead (s : State) (d i : Nat) : Option Decoded :=
  (s.windows[d]?).bind fun w => w.slots[i]?

/-- head[d] (R54); 0 where device d has no window. -/
def State.head (s : State) (d : Nat) : Nat :=
  match s.windows[d]? with
  | some w => w.head
  | none => 0

/-- sum[d] (R55); 0 where device d has no window. -/
def State.sum (s : State) (d : Nat) : Nat :=
  match s.windows[d]? with
  | some w => w.sum
  | none => 0

/-- AVG_UPDATE(d, v) on the storage of R53 to R55: the state it leaves and the mean it returns (R129); the identity when averaging is off (R132). -/
def State.avgUpdate (d : Nat) (v : Decoded) (s : State) : Host.Outcome (State × Decoded) Fault Refusal :=
  if s.params.avgEnabled then
    match s.windows[d]? with
    | none => .fault (.noSuchSlot d 0)
    | some w =>
      match w.slots[w.head]? with
      | none => .fault (.noSuchSlot d w.head)
      | some old =>
        let r := w.insert s.params.windowBits old v
        .next ({ s with windows := s.windows.set d r.1 }, r.2)
  else .next (s, v)

/-! ## The serial transaction -/

/-- XFER_BYTE_start (R104). -/
def State.startByte (s : State) : State :=
  { s with xferActive := true, bitCnt := 0, divCnt := 0 }

/-- The start of READ_RAW(dev): lock, discard what is stale, select, enter SELECTED (R110, R111). -/
def State.startRead (dev : DevIdx) (s : State) : State :=
  ({ s with curDev := dev, busLock := true, xferDone := false, rxByte := 0, sr := 0 }.selectLine dev true).enterWait
    s.params.cLatch .selected

/-- The deselect that ends a transaction: the select line rises and `bus_lock` falls at one edge (R115, R116). -/
def State.endTransaction (s : State) : State :=
  { s.selectLine s.curDev false with busLock := false, fsm := .deselected }

/-! ## Command fetch -/

/-- What the command port gives in a cycle. -/
inductive Fetched where
  /-- `rst` = 1 (R25) -/
  | reset
  /-- `fsm` ≠ IDLE: neither `cmd_valid` nor `cmd` is sampled (R146) -/
  | busy
  /-- IDLE, and no command is presented (R135) -/
  | quiet
  /-- an illegal word is accepted (R136) -/
  | illegal (why : IllegalWord)
  /-- a command is accepted (R135) -/
  | command (i : Instr)
deriving DecidableEq, Repr

/-- The command port in this cycle (R26, R135, R146). -/
def State.fetch (s : State) : Fetched :=
  if s.inputs.rst then .reset
  else if s.fsm ≠ .idle then .busy
  else if s.inputs.cmdValid then
    match decode s.inputs.cmd with
    | .instr i => .command i
    | .illegal why => .illegal why
  else .quiet

/-- s with the word c presented on the command port of an IDLE core in this cycle; the other inputs of the cycle as they are (log 6). -/
def State.presentCommand (c : Byte) (s : State) : State :=
  { s with
    fsm := .idle
    env := { s.inputs with rst := false, cmdValid := true, cmd := c } :: s.env.tail }

/-! ## The edges of a cycle -/

/-- An edge with `rst` = 1 (R25, R167, R169): every register of 70_reset §2, but not the windows, the sensors or the parameters. -/
def State.resetEdge (s : State) : State :=
  { State.resetWith s.params with
    windows := s.windows, sensors := s.sensors, env := s.env, cycle := s.cycle, result := s.result }

/-- One cycle of a sensor's record (R56): the line before and after the edge. -/
def Sensor.tick (before after : Bool) (x : Sensor) : Sensor :=
  if !before && after then { inFlight := true, sinceEdge := 0 }
  else if x.inFlight then { x with sinceEdge := x.sinceEdge + 1 }
  else x

/-- One cycle of every sensor's record, from sensor d on. -/
def tickSensors (before after : List Bool) : Nat → List Sensor → List Sensor
  | _, [] => []
  | d, x :: xs => x.tick (before.getD d true) (after.getD d true) :: tickSensors before after (d + 1) xs

/-- The end of the cycle that began in `old`: its inputs are used up, the sensors see the edge of `cs_n`, and nothing but registers is kept (logs 5, 7 and 12). -/
def State.endCycle (old s : State) : State :=
  { s with
    sensors := tickSensors old.csN s.csN 0 s.sensors
    env := s.env.tail
    cycle := s.cycle + 1
    result := .nothing }

end Sys2Proof.Machine
end

