-- ==== Sys2Proof/Machine/Selector.lean ====
section
/-! DEFINITION. The Device Selector (40_device_selector.md). -/

namespace Sys2Proof.Machine

/-- SELECT(dev, active) (R92): it writes the one `cs_n` bit the device is routed to; "No error return". -/
def execSelect (dev : DevIdx) (active : Bool) (s : State) : Outcome :=
  .next (s.selectLine dev active)

end Sys2Proof.Machine
end

