-- ==== Sys2Proof/Machine/Conversion.lean ====
section
/-! DEFINITION. The Conversion Sequencer (41_conversion_sequencer.md): the acceptance of START_ALL and its three wait states. -/

namespace Sys2Proof.Machine

/-- START_ALL in its acceptance cycle: the phase check (R137), then the first step of R96. -/
def execStartAll (s : State) : Outcome :=
  if phaseAllows s.phase .startAll then
    .next (({ s with curDev := 0 }.selectLine 0 false).enterWait s.params.cSettle .saDesel)
  else .next s.refuseOrder

/-- What ends SA_DESEL (R97): the device is asserted. -/
def State.endSaDesel (s : State) : State :=
  (s.selectLine s.curDev true).enterWait s.params.cStart .saAssert

/-- What ends SA_ASSERT (R98): the device is deasserted, and starts its conversion. -/
def State.endSaAssert (s : State) : State :=
  (s.selectLine s.curDev false).enterWait s.params.cConv .saConv

/-- What ends SA_CONV (R99, R100): the next device, or the completion of START_ALL. -/
def State.endSaConv (s : State) : State :=
  if s.curDev.toNat + 1 < s.params.deviceCount.toNat then
    { s with curDev := s.curDev + 1 }.enterWait s.params.cSettle .saDesel
  else { s.respond .done 0 with phase := .started, fsm := .idle }

/-- One cycle of SA_DESEL (R97). -/
def State.saDesel (s : State) : State := s.wait State.endSaDesel

/-- One cycle of SA_ASSERT (R98). -/
def State.saAssert (s : State) : State := s.wait State.endSaAssert

/-- One cycle of SA_CONV (R99). -/
def State.saConv (s : State) : State := s.wait State.endSaConv

end Sys2Proof.Machine
end

