-- ==== Sys2Proof/Machine/Filter.lean ====
section
/-! DEFINITION. The Averaging Filter (44_averaging_filter.md). -/

namespace Sys2Proof.Machine

/-- AVG_INIT (R128): every slot 100, every head 0, every sum 100·N; no effect without storage. -/
def execAvgInit (s : State) : Outcome := .next s.initWindows

/-- AVG_UPDATE(d, v) (R129); d is an effective device (R91). `result` is how a meaning returns a value (log 12). -/
def execAvgUpdate (d : DevIdx) (v : Decoded) (s : State) : Outcome :=
  andThen (s.avgUpdate (eff s.params d) v) fun r => .next { r.1 with result := .mean r.2 }

/-- The logical window W_d of R127, the newest value first: w_j = slots[(head − 1 − j) mod N]. -/
def Window.logical (k : Nat) (w : Window) : List Decoded :=
  (List.range (2 ^ k)).map fun j => w.slots.getD ((w.head + 2 ^ k - 1 - j) % 2 ^ k) 0

end Sys2Proof.Machine
end

