-- ==== Sys2Proof/Machine/Reader.lean ====
section
/-! DEFINITION. The Sample Reader (42_sample_reader.md): the byte engine, the transaction's states and the time-out. -/

namespace Sys2Proof.Machine

/-- SAMPLE (R106): `rx_byte` shifts left and takes `miso` into bit 0. -/
def State.sample (miso : Bool) (s : State) : State :=
  { s with rxByte := s.rxByte.extractLsb' 0 7 ++ BitVec.ofBool miso }

/-- BIT_END (R107): the eighth falling edge completes the byte. -/
def State.bitEnd (s : State) : State :=
  if s.bitCnt = 7 then { s with xferActive := false, xferDone := true }
  else { s with bitCnt := s.bitCnt + 1 }

/-- The byte engine's step in one cycle (R105); without `bus_ready` it holds (R108). -/
def State.byteEngine (busReady miso : Bool) (s : State) : State :=
  if s.xferActive && busReady then
    if s.divCnt = s.params.sckDiv - 1 then
      if s.sck then { s with divCnt := 0, sck := false }.bitEnd
      else { s with divCnt := 0, sck := true }.sample miso
    else { s with divCnt := s.divCnt + 1 }
  else s

/-- XFER_BYTE in the cycle that starts it (R104); the byte engine carries it on, a cycle at a time. -/
def execXferByte (s : State) : Outcome := .next s.startByte

/-- READ_RAW(dev) in the cycle that starts it (R110, R111); the states below carry it on. -/
def execReadRaw (dev : DevIdx) (s : State) : Outcome := .next (s.startRead dev)

/-- What ends SELECTED (R112). -/
def State.endSelected (s : State) : State := { s with fsm := .latched }

/-- One cycle of SELECTED (R112). -/
def State.selected (s : State) : State := s.wait State.endSelected

/-- LATCHED (R113). -/
def State.latched (s : State) : State := { s.startByte with toCnt := 0, fsm := .byteMsb }

/-- The abort of R116. -/
def State.abort (s : State) : State :=
  { s with xferActive := false, xferDone := false, sck := false, divCnt := 0, bitCnt := 0, toFlag := true }.endTransaction

/-- The time-out step (R116). -/
def State.timeoutStep (s : State) : State :=
  match s.params.busTimeout with
  | none => s
  | some t => if s.toCnt < t - 1 then { s with toCnt := s.toCnt + 1 } else s.abort

/-- One cycle of BYTE_MSB (R114). `done` and `byte` are the values `xfer_done` and `rx_byte` hold in the cycle (R22). -/
def State.byteMsb (done : Bool) (byte : Byte) (s : State) : State :=
  if done then
    { s.startByte with
      sr := byte ++ s.sr.extractLsb' 0 8, xferDone := false, toCnt := 0, fsm := .byteLsb }
  else s.timeoutStep

/-- One cycle of BYTE_LSB (R115). -/
def State.byteLsb (done : Bool) (byte : Byte) (s : State) : State :=
  if done then { s with sr := s.sr.extractLsb' 8 8 ++ byte, xferDone := false }.endTransaction
  else s.timeoutStep

end Sys2Proof.Machine
end

