-- ==== Sys2Proof/Machine/Classifier.lean ====
section
/-! DEFINITION. The Fault Classifier (43_fault_classifier.md). -/

namespace Sys2Proof.Machine

/-- CLASSIFY(raw) (R119), "applied in order". -/
def classify (raw : Word) : Class :=
  if lineDetect raw then .lineFault
  else if rangeDetect (decodedField raw) then .rangeFault (decodedField raw)
  else .valid (decodedField raw)

/-- CLASSIFY(raw): it writes no register and returns the class (R119); `result` is how a meaning returns a value (log 12). -/
def execClassify (raw : Word) (s : State) : Outcome :=
  .next { s with result := .classified (classify raw) }

end Sys2Proof.Machine
end

