-- ==== Sys2Proof/Machine/TopLevel.lean ====
section
/-! DEFINITION. The top-level commands (45_top_level.md): the acceptance of SETUP and READ, SETUP_INIT and DESELECTED. -/

namespace Sys2Proof.Machine

/-- SETUP in its acceptance cycle (R139); allowed in every phase (R137). -/
def execSetup (s : State) : Outcome :=
  if phaseAllows s.phase .setup then .next (s.deselectAll.enterWait s.params.cSetup .setupInit)
  else .next s.refuseOrder

/-- READ dev in its acceptance cycle: the phase check (R137), then the step of R111 (R141). -/
def execRead (dev : DevIdx) (s : State) : Outcome :=
  if phaseAllows s.phase (.read dev) then .next (s.startRead dev)
  else .next s.refuseOrder

/-- The last cycle of SETUP_INIT (R140). -/
def State.finishSetup (s : State) : State :=
  { s.initWindows.respond .done 0 with phase := .configured, fsm := .idle }

/-- One cycle of SETUP_INIT (R140): before its last cycle it may write any part of the windows (log 4). -/
def State.setupInit (s : State) : State :=
  if s.dlyCnt = 0 then s.finishSetup
  else { s with dlyCnt := s.dlyCnt - 1, windows := partInitWindows s.params s.cycle 0 s.windows }

/-- What DESELECTED does for a valid value (R142, R143): average it if averaging is on, and respond. -/
def State.reportValid (x : Decoded) (s : State) : Outcome :=
  andThen (s.avgUpdate (eff s.params s.curDev) x) fun r => .next (r.1.respond .done (zext16 r.2))

/-- The outcome of a READ (R142, R143): a time-out is never classified. -/
def State.reportRead (s : State) : Outcome :=
  if s.toFlag then .next (s.takeFault s.params.busTimeoutCode s.params.busTimeoutCode)
  else match classify s.sr with
    | .lineFault => .next (s.takeFault lineCode lineCode)
    | .rangeFault x => .next (s.takeFault (zext16 x) rangeSentinel)
    | .valid x => s.reportValid x

/-- DESELECTED (R142). -/
def State.deselected (s : State) : Outcome :=
  andThen s.reportRead fun s => .next { s with toFlag := false, fsm := .idle }

end Sys2Proof.Machine
end

