-- ==== Sys2Proof/Machine/Sequencer.lean ====
section
/-! DEFINITION. One cycle of the sequencer outside IDLE (R38), and what surrounds the sequencer in every cycle. -/

namespace Sys2Proof.Machine

/-- What happens in every cycle with `rst` = 0 beside the sequencer: the pulses fall (R51, R52) and the byte engine steps (R105). The sequencer's own writes are laid over it, so that an abort's value wins (R105; log 9). -/
def State.beginCycle (s : State) : State :=
  s.clearPulses.byteEngine s.inputs.busReady s.inputs.miso

/-- One cycle of the sequencer in the state `fsm` of the cycle. `old` holds the values of the current cycle (R22); s is `old.beginCycle`. -/
def State.sequence (old s : State) : Outcome :=
  match old.fsm with
  | .idle => .next s
  | .selected => .next s.selected
  | .latched => .next s.latched
  | .byteMsb => .next (s.byteMsb old.xferDone old.rxByte)
  | .byteLsb => .next (s.byteLsb old.xferDone old.rxByte)
  | .deselected => s.deselected
  | .setupInit => .next s.setupInit
  | .saDesel => .next s.saDesel
  | .saAssert => .next s.saAssert
  | .saConv => .next s.saConv

end Sys2Proof.Machine
end

