-- ==== Sys2Proof/Machine/Dispatch.lean ====
section
/-! DEFINITION. What each instruction does: one arm for each constructor of `Instr`. A host command's arm is its acceptance cycle (R135); an internal operation's arm is the cycle that performs or starts it. -/

namespace Sys2Proof.Machine

def exec (i : Instr) (s : State) : Host.Outcome State Fault Refusal :=
  match i with
  | .setup => Sys2Proof.Machine.execSetup s
  | .startAll => Sys2Proof.Machine.execStartAll s
  | .read dev => Sys2Proof.Machine.execRead dev s
  | .select dev active => Sys2Proof.Machine.execSelect dev active s
  | .xferByte => Sys2Proof.Machine.execXferByte s
  | .readRaw dev => Sys2Proof.Machine.execReadRaw dev s
  | .classify raw => Sys2Proof.Machine.execClassify raw s
  | .avgInit => Sys2Proof.Machine.execAvgInit s
  | .avgUpdate d v => Sys2Proof.Machine.execAvgUpdate d v s

end Sys2Proof.Machine
end

