-- ==== Sys2Proof/Machine/Step.lean ====
section
/-! DEFINITION. One step: one cycle of `clk` (R8, R23, R24). -/

namespace Sys2Proof.Machine

/-- One clock cycle: a reset edge (R167), a cycle in IDLE with or without a command (R135, R136), or a cycle of the sequencer. -/
def step (s : State) : Host.Outcome State Fault Refusal :=
  andThen
    (match s.fetch with
     | .reset => .next s.resetEdge
     | .busy => s.sequence s.beginCycle
     | .quiet => .next s.beginCycle
     | .illegal _ => .next s.beginCycle.refuseIllegal
     | .command i => exec i s.beginCycle)
    fun t => .next (s.endCycle t)

/-- s with an 8-bit command word (the table's numbering: bit 0 is `cmd[0]`) presented on the command port of an IDLE core, so that the next step accepts it (R135; log 6). -/
def State.withFetchWord (s : State) (_nbits w : Nat) : State :=
  s.presentCommand (BitVec.ofNat 8 w)

end Sys2Proof.Machine
end

