-- ==== Sys2Proof/Machine/Asm.lean ====
section
/-! DEFINITION. The assembler syntax of R89, as far as it concerns the core: a line of a command program to what it writes. The `env` lines are read, and emit no command; what a test harness does with them is outside the core. -/

namespace Sys2Proof.Machine

/-- What one line stands for (R89). -/
inductive AsmItem where
  /-- `SETUP`, `START_ALL` or `READ <d>` -/
  | command (i : Instr)
  /-- `.byte 0xHH` -/
  | byte (b : Byte)
  /-- `env sensor <d> = 0xHHHH` -/
  | envSensor (d : DevIdx) (w : Word)
  /-- `env bus_ready = 0|1` -/
  | envBusReady (v : Bool)
  /-- `env reset` -/
  | envReset
deriving DecidableEq, Repr

/-- A line without its comment: `;` starts a comment that runs to the end of the line. -/
def stripComment : List Char → List Char
  | [] => []
  | c :: cs => if c = ';' then [] else c :: stripComment cs

/-- The words of a line, separated by spaces and tabs; `cur` is the word being read, reversed. -/
def splitWords : List Char → List Char → List (List Char)
  | cur, [] => if cur = [] then [] else [cur.reverse]
  | cur, c :: cs =>
    if c = ' ' ∨ c = '\t' then
      if cur = [] then splitWords [] cs else cur.reverse :: splitWords [] cs
    else splitWords (c :: cur) cs

/-- The value of a hexadecimal digit. -/
def hexDigit (c : Char) : Option Nat :=
  let n := c.toNat
  if 48 ≤ n ∧ n ≤ 57 then some (n - 48)
  else if 65 ≤ n ∧ n ≤ 70 then some (n - 55)
  else if 97 ≤ n ∧ n ≤ 102 then some (n - 87)
  else none

/-- The value of a sequence of hexadecimal digits. -/
def hexDigits : Nat → List Char → Option Nat
  | acc, [] => some acc
  | acc, c :: cs =>
    match hexDigit c with
    | some v => hexDigits (16 * acc + v) cs
    | none => none

/-- A literal `0x` with exactly `digits` hexadecimal digits. -/
def hexLiteral (digits : Nat) : List Char → Option Nat
  | '0' :: 'x' :: cs => if cs.length = digits then hexDigits 0 cs else none
  | _ => none

/-- A device operand: a decimal 0 or 1 and nothing else. -/
def deviceOperand (w : List Char) : Option DevIdx :=
  if w = ['0'] then some 0 else if w = ['1'] then some 1 else none

/-- One line, already cut into words; none is a rejected line. -/
def assembleWords : List (List Char) → Option AsmItem
  | [m] =>
    if m = "SETUP".toList then some (.command .setup)
    else if m = "START_ALL".toList then some (.command .startAll)
    else none
  | [m, x] =>
    if m = "READ".toList then (deviceOperand x).map fun d => .command (.read d)
    else if m = ".byte".toList then (hexLiteral 2 x).map fun n => .byte (BitVec.ofNat 8 n)
    else if m = "env".toList ∧ x = "reset".toList then some .envReset
    else none
  | [m, x, e, v] =>
    if m = "env".toList ∧ x = "bus_ready".toList ∧ e = ['='] then
      (deviceOperand v).map fun b => .envBusReady (b == 1)
    else none
  | [m, x, d, e, v] =>
    if m = "env".toList ∧ x = "sensor".toList ∧ e = ['='] then
      (deviceOperand d).bind fun dev => (hexLiteral 4 v).map fun n => .envSensor dev (BitVec.ofNat 16 n)
    else none
  | _ => none

/-- One line of a program (R89): `some []` for a blank line or a comment, none for a rejected line. -/
def assembleLine (line : List Char) : Option (List AsmItem) :=
  match splitWords [] (stripComment line) with
  | [] => some []
  | ws => (assembleWords ws).map fun a => [a]

/-- The command words a line emits: R77's word for a command, the byte as given for `.byte`, none for an `env` line. -/
def AsmItem.emit : AsmItem → List Byte
  | .command i => (encode i).toList
  | .byte b => [b]
  | .envSensor _ _ => []
  | .envBusReady _ => []
  | .envReset => []

end Sys2Proof.Machine
end

