-- ==== Sys2Proof/Machine/Ports.lean ====
section
/-! DEFINITION. The output ports (10_state §1): all that the outside can read of the core (R37). -/

namespace Sys2Proof.Machine

/-- The output ports of 10_state §1. -/
structure Outputs where
  cmdReady : Bool
  rspValid : Bool
  rspStatus : BitVec 2
  rspData : Word
  faultValid : Bool
  faultCode : Word
  csN : List Bool
  sck : Bool
  mosi : Bool
  busLock : Bool
deriving DecidableEq, Repr

/-- The outputs of the current cycle: each straight from its register (R27 to R31, R33), `cmd_ready` combinational (R34). -/
def State.outputs (s : State) : Outputs where
  cmdReady := s.cmdReady
  rspValid := s.rspValid
  rspStatus := s.rspStatus
  rspData := s.rspData
  faultValid := s.faultValid
  faultCode := s.faultCode
  csN := s.csN
  sck := s.sck
  mosi := s.mosi
  busLock := s.busLock

end Sys2Proof.Machine
end

