-- ==== Sys2Proof/Safety.lean ====
section
/-! DEFINITION. The terms the statements use: the invariant of the machine, the inputs of a run, and the words and lines a run is compared with. -/

namespace Sys2Proof.Machine

/-! ## The invariant -/

/-- The states of a READ in which its line is asserted and the bus is locked (R33, R67). -/
def Fsm.inTransaction : Fsm → Bool
  | .selected => true
  | .latched => true
  | .byteMsb => true
  | .byteLsb => true
  | .idle => false
  | .deselected => false
  | .setupInit => false
  | .saDesel => false
  | .saAssert => false
  | .saConv => false

/-- The states of a START_ALL (R96). -/
def Fsm.inStartAll : Fsm → Bool
  | .saDesel => true
  | .saAssert => true
  | .saConv => true
  | .idle => false
  | .selected => false
  | .latched => false
  | .byteMsb => false
  | .byteLsb => false
  | .deselected => false
  | .setupInit => false

/-- The states that wait for a byte (R114, R115). -/
def Fsm.inByte : Fsm → Bool
  | .byteMsb => true
  | .byteLsb => true
  | .idle => false
  | .selected => false
  | .latched => false
  | .deselected => false
  | .setupInit => false
  | .saDesel => false
  | .saAssert => false
  | .saConv => false

/-- Every select line deasserted. -/
def allOnes (p : Params) : List Bool := List.replicate p.deviceCount.toNat true

/-- The lines with the one of a logical device asserted, if it has one (R92 to R94). -/
def linesWith (p : Params) (dev : DevIdx) : List Bool :=
  match lineOf p dev with
  | some l => (allOnes p).set l false
  | none => allOnes p

/-- The lines a state of the sequencer goes with (R95 to R99, R111 to R115). -/
def State.linesOfFsm (s : State) : List Bool :=
  if s.fsm.inTransaction || s.fsm == .saAssert then linesWith s.params s.curDev else allOnes s.params

/-- The storage of R53 to R55 and R62: a window for each device when averaging is on, N slots each, head of k bits, sum of 13 + k bits. -/
def Window.fits (p : Params) (w : Window) : Prop :=
  w.slots.length = p.windowSize ∧ w.head < p.windowSize ∧ w.sum < 2 ^ p.sumWidth

/-- R130 for one window: the sum register is the sum of the slots, and every slot lies in [10, 1200]. -/
def Window.sound (w : Window) : Prop :=
  w.sum = (w.slots.map BitVec.toNat).sum ∧ ∀ v ∈ w.slots, 10 ≤ v.toNat ∧ v.toNat ≤ 1200

/-- What every reachable state of the core satisfies. -/
structure State.Inv (s : State) : Prop where
  /-- R9 to R17 -/
  params : s.params.wf = true
  /-- R50, R56: one line and one record for each device -/
  sensors : s.sensors.length = s.params.deviceCount.toNat
  /-- R53 to R55, R62 -/
  windows : s.params.avgEnabled = true →
    s.windows.length = s.params.deviceCount.toNat ∧ ∀ w ∈ s.windows, w.fits s.params
  /-- R53, R132: no storage when averaging is off -/
  noWindows : s.params.avgEnabled = false → s.windows = []
  /-- R130, R60: the windows are sound wherever AVG_UPDATE can run -/
  sound : s.phase ≠ .unconfigured → s.fsm ≠ .setupInit → ∀ w ∈ s.windows, w.sound
  /-- R41 -/
  dlyCnt : s.dlyCnt ≤ s.params.maxDelay
  /-- R45 -/
  divCnt : s.divCnt ≤ s.params.sckDiv - 1
  /-- R48 -/
  toCnt : ∀ t, s.params.busTimeout = some t → s.toCnt < t
  /-- R48: the counter exists only with a time-out -/
  noTimeout : s.params.busTimeout = none → s.toCnt = 0
  /-- R49 -/
  toFlag : s.toFlag = true → s.fsm = .deselected ∧ s.params.busTimeout ≠ none
  /-- R95, R59 -/
  lines : s.csN = s.linesOfFsm
  /-- R33, R59 -/
  busLock : s.busLock = s.fsm.inTransaction
  /-- R46, R47, R59: outside a byte's wait the engine is at rest -/
  atRest : s.fsm.inByte = false → s.xferActive = false ∧ s.xferDone = false
  /-- R107, R114, R115: in a byte's wait the engine either shifts or has its byte ready -/
  inByte : s.fsm.inByte = true → s.xferDone = !s.xferActive
  /-- R30, R107 -/
  sck : s.xferActive = false → s.sck = false
  /-- R31, R109 -/
  mosi : s.mosi = false
  /-- R39, R71, R137: a READ runs only when STARTED -/
  readPhase : s.fsm.inTransaction = true ∨ s.fsm = .deselected → s.phase = .started
  /-- R137: a START_ALL runs only after a SETUP -/
  startPhase : s.fsm.inStartAll = true → s.phase ≠ .unconfigured
  /-- R40, R96, R99: START_ALL sequences a physical device -/
  startDev : s.fsm.inStartAll = true → s.curDev.toNat < s.params.deviceCount.toNat
  /-- R84: status 0b11 is never produced -/
  status : s.rspStatus ≠ 0b11
  /-- R153: a fault event comes with the DONE response of its READ -/
  pulses : s.faultValid = true → s.rspValid = true ∧ s.rspStatus = Status.done.code
  /-- the model's own wire holds nothing between cycles (log 12) -/
  result : s.result = .nothing

/-! ## Runs -/

/-- n cycles from s. -/
def runFor (n : Nat) (s : State) : Outcome := Host.Core.run Sys2Proof.core n s

/-- The inputs of the cycle j cycles after s's own (log 5). -/
def State.inputAt (s : State) (j : Nat) : Inputs :=
  match s.env[j]? with
  | some i => i
  | none => Config.drawInputs (s.cycle + j)

/-- `rst` = 0 in the first n cycles of a run from s. -/
def State.noReset (s : State) (n : Nat) : Prop := ∀ j < n, (s.inputAt j).rst = false

/-- The host presents the word c in the cycle of s, and the core is in IDLE with `rst` = 0: the cycle accepts c (R135). -/
def State.accepts (s : State) (c : Byte) : Prop :=
  s.fsm = .idle ∧ s.inputs.rst = false ∧ s.inputs.cmdValid = true ∧ s.inputs.cmd = c

/-- The cycle of SCK's rising edge number j of a READ accepted in cycle 0 with `bus_ready` = 1 throughout (R118). -/
def sampleCycle (p : Params) (j : Nat) : Nat :=
  p.cLatch + (if j < 8 then 1 else 2) + p.sckDiv + 2 * p.sckDiv * j

/-- n bits, the first sampled uppermost (R63). -/
def assembleBits (bit : Nat → Bool) : Nat → Nat
  | 0 => 0
  | n + 1 => 2 * assembleBits bit n + (bit n).toNat

/-- The raw word of a READ accepted in the cycle of s with `bus_ready` = 1 throughout: the first bit sampled is bit 15 (R63, R117, R118). -/
def State.rawWord (s : State) : Word :=
  BitVec.ofNat 16 (assembleBits (fun j => (s.inputAt (sampleCycle s.params j)).miso) 16)

/-- The cycles with `bus_ready` = 1 among the n cycles from cycle i on: those in which an active byte engine advances (R105, R108). -/
def State.readyCycles (s : State) (i n : Nat) : List Nat :=
  (List.range' i n).filter fun j => (s.inputAt j).busReady

/-- A byte started for cycle i is complete after n cycles: they hold its 16·SCK_DIV ready cycles, the last of them at their end (R105, R107, R108). -/
def State.byteFills (s : State) (i n : Nat) : Prop :=
  (s.readyCycles i n).length = 16 * s.params.sckDiv ∧ (s.inputAt (i + n - 1)).busReady = true

/-- The byte those n cycles take from `miso`: bit j, the first uppermost, is sampled in ready cycle number (2·j + 1)·SCK_DIV (R105, R106). -/
def State.byteTaken (s : State) (i n : Nat) : Byte :=
  BitVec.ofNat 8 (assembleBits
    (fun j => (s.inputAt ((s.readyCycles i n).getD (s.params.sckDiv - 1 + 2 * s.params.sckDiv * j) 0)).miso) 8)

/-- The first cycle of the MSB byte of a READ accepted in cycle 0 (R118). -/
def msbStart (p : Params) : Nat := p.cLatch + 2

/-- The first cycle of its LSB byte, after k cycles without `bus_ready` in the MSB byte: the cycle after the hand-over (R118). -/
def lsbStart (p : Params) (k : Nat) : Nat := p.cLatch + 3 + 16 * p.sckDiv + k

/-- The raw word of a READ accepted in the cycle of s whose bytes see k and l cycles without `bus_ready` (R117). -/
def State.wordTaken (s : State) (k l : Nat) : Word :=
  s.byteTaken (msbStart s.params) (16 * s.params.sckDiv + k) ++
  s.byteTaken (lsbStart s.params k) (16 * s.params.sckDiv + l)

/-- The cycles one device takes in START_ALL: S of R103. -/
def startAllSpan (p : Params) : Nat := p.cSettle + p.cStart + p.cConv

/-- The lines in cycle c of a START_ALL accepted in cycle 0 (R103). -/
def startAllLines (p : Params) (c : Nat) : List Bool :=
  (List.range p.deviceCount.toNat).map fun d =>
    !(decide (d * startAllSpan p + p.cSettle + 1 ≤ c) && decide (c ≤ d * startAllSpan p + p.cSettle + p.cStart))

/-- AVG_UPDATE on device d for each value of a list in turn. -/
def feed (d : DevIdx) : List Decoded → State → Outcome
  | [], s => .next s
  | v :: vs, s => andThen (exec (.avgUpdate d v) s) (feed d vs)

/-- The last N of INIT_VALUE N times and then the values: what R134 sums. -/
def lastOf (n : Nat) (vs : List Decoded) : List Decoded :=
  (List.replicate n initValue ++ vs).drop vs.length

end Sys2Proof.Machine
end

