-- ==== Sys2Proof/Certificates/Slice0/Obligations.lean ====
section
/-! DEFINITION. The statements for the provers. Each docstring names the rule of spec/ it formalises. -/

open Sys2Proof Sys2Proof.Machine

/-! ## Encoding -/

/-- R77: the four legal command words, and no other. -/
def Obligations.CommandWordsDecodeAsTabled : Prop :=
  decode 0x10 = .instr .setup ∧ decode 0x20 = .instr .startAll ∧
  decode 0x30 = .instr (.read 0) ∧ decode 0x31 = .instr (.read 1) ∧
  ∀ c : Byte, c ≠ 0x10 → c ≠ 0x20 → c ≠ 0x30 → c ≠ 0x31 → ∃ why, decode c = .illegal why

/-- R77, R83, R88: decoding and encoding agree on every instruction and every word, and no word decodes to an internal operation. -/
def Obligations.DecodeAndEncodeAgree : Prop :=
  (∀ (i : Instr) (w : Byte), encode i = some w ↔ decode w = .instr i) ∧
  (∀ i : Instr, (∃ w, decode w = .instr i) ↔ i.isCommand = true)

/-- R89: what the assembler writes for one line of each kind, and that it rejects a READ operand other than 0 or 1. -/
def Obligations.AssemblerWritesTabledWords : Prop :=
  (assembleLine "  SETUP ; boot".toList).map (·.flatMap AsmItem.emit) = some [0x10] ∧
  (assembleLine "START_ALL".toList).map (·.flatMap AsmItem.emit) = some [0x20] ∧
  (assembleLine "READ 1".toList).map (·.flatMap AsmItem.emit) = some [0x31] ∧
  (assembleLine ".byte 0x12".toList).map (·.flatMap AsmItem.emit) = some [0x12] ∧
  (assembleLine "env reset".toList).map (·.flatMap AsmItem.emit) = some [] ∧
  assembleLine "READ 2".toList = none

/-! ## Reset -/

/-- R25 (with R167, R169): at an edge with `rst` = 1 every register takes its reset value, whatever the state, and the window storage is left as it is. -/
def Obligations.ResetEdgeGivesResetValues : Prop :=
  ∀ s : State, s.inputs.rst = true → ∃ t, step s = .next t ∧
    t.fsm = .idle ∧ t.phase = .unconfigured ∧ t.curDev = 0 ∧ t.dlyCnt = 0 ∧
    t.sr = 0 ∧ t.rxByte = 0 ∧ t.bitCnt = 0 ∧ t.divCnt = 0 ∧
    t.xferActive = false ∧ t.xferDone = false ∧ t.toCnt = 0 ∧ t.toFlag = false ∧
    t.csN = List.replicate s.params.deviceCount.toNat true ∧
    t.sck = false ∧ t.mosi = false ∧ t.busLock = false ∧
    t.rspValid = false ∧ t.rspStatus = 0 ∧ t.rspData = 0 ∧
    t.faultValid = false ∧ t.faultCode = 0 ∧
    t.windows = s.windows ∧ t.params = s.params

/-- R169, for the machine the host starts: every register the spec resets has its value in `State.resetWith p` for every block p. The windows' zeros are the model's choice (log 3), and so are the parameters of `State.reset` (log 2); nothing is said of either. -/
def Obligations.ResetStateHoldsResetValues : Prop :=
  State.reset = State.resetWith Config.defaultParams ∧
  ∀ p : Params, (State.resetWith p).fsm = .idle ∧ (State.resetWith p).phase = .unconfigured ∧
    (State.resetWith p).curDev = 0 ∧ (State.resetWith p).dlyCnt = 0 ∧
    (State.resetWith p).sr = 0 ∧ (State.resetWith p).rxByte = 0 ∧
    (State.resetWith p).bitCnt = 0 ∧ (State.resetWith p).divCnt = 0 ∧
    (State.resetWith p).xferActive = false ∧ (State.resetWith p).xferDone = false ∧
    (State.resetWith p).toCnt = 0 ∧ (State.resetWith p).toFlag = false ∧
    (State.resetWith p).csN = List.replicate p.deviceCount.toNat true ∧
    (State.resetWith p).sck = false ∧ (State.resetWith p).mosi = false ∧
    (State.resetWith p).busLock = false ∧ (State.resetWith p).rspValid = false ∧
    (State.resetWith p).rspStatus = 0 ∧ (State.resetWith p).rspData = 0 ∧
    (State.resetWith p).faultValid = false ∧ (State.resetWith p).faultCode = 0

/-! ## Invariants -/

/-- The invariant holds right after reset, in every block whose parameters are allowed. -/
def Obligations.ResetEstablishesTheInvariant : Prop :=
  State.reset.Inv ∧ ∀ p : Params, p.wf = true → (State.resetWith p).Inv

/-- Every cycle from a state with the invariant answers a next state with the invariant: the machine never stops, whatever its inputs. -/
def Obligations.EveryStepKeepsTheInvariant : Prop :=
  ∀ s : State, s.Inv → ∃ t, step s = .next t ∧ t.Inv

/-- R59, over every run from reset, of every block and under every environment. -/
def Obligations.IdleLeavesTheBusAtRest : Prop :=
  ∀ (p : Params) (e : List Inputs) (c n : Nat), p.wf = true →
    ∃ t, runFor n { State.resetWith p with env := e, cycle := c } = .next t ∧
      (t.fsm = .idle →
        t.csN = List.replicate p.deviceCount.toNat true ∧ t.sck = false ∧ t.busLock = false ∧
        t.xferActive = false ∧ t.xferDone = false ∧ t.toFlag = false)

/-- R130, over every run from reset: where AVG_INIT has run since reset (`phase` is past UNCONFIGURED) and `fsm` is not SETUP_INIT, there is a window for each device, each sum register is the sum of its slots, and every slot lies in [10, 1200]. -/
def Obligations.WindowSumsAreTheSumsOfTheirSlots : Prop :=
  ∀ (p : Params) (e : List Inputs) (c n : Nat), p.wf = true → p.avgEnabled = true →
    ∃ t, runFor n { State.resetWith p with env := e, cycle := c } = .next t ∧
      t.windows.length = p.deviceCount.toNat ∧
      (t.phase ≠ .unconfigured → t.fsm ≠ .setupInit →
        ∀ w ∈ t.windows, w.slots.length = 2 ^ p.windowBits ∧
          w.sum = (w.slots.map BitVec.toNat).sum ∧ ∀ v ∈ w.slots, 10 ≤ v.toNat ∧ v.toNat ≤ 1200)

/-- R95: at most one select line is asserted, and none in IDLE. -/
def Obligations.AtMostOneLineIsAsserted : Prop :=
  ∀ s : State, s.Inv → s.csN.length = s.params.deviceCount.toNat ∧ s.csN.count false ≤ 1 ∧
    (s.fsm = .idle → s.csN.count false = 0)

/-- R41, R45, R54, R55: every counter of a parametric width fits the width the spec gives it. -/
def Obligations.CountersFitTheirWidths : Prop :=
  ∀ s : State, s.Inv → s.dlyCnt < 2 ^ s.params.dlyWidth ∧ s.divCnt < 2 ^ s.params.divWidth ∧
    ∀ w ∈ s.windows, w.head < 2 ^ s.params.windowBits ∧ w.sum < 2 ^ (13 + s.params.windowBits)

/-! ## A step and the command port -/

/-- R135: a cycle that accepts a legal word runs the instruction it decodes to, on the state in which the pulses have fallen (and the byte engine, which rests in IDLE, has stepped); a cycle of IDLE with no command only lets the pulses fall. -/
def Obligations.StepRunsTheAcceptedCommand : Prop :=
  (∀ (s : State) (c : Byte) (i : Instr), s.accepts c → decode c = .instr i →
    step s = andThen (exec i s.beginCycle) fun t => .next (s.endCycle t)) ∧
  (∀ s : State, s.xferActive = false → s.beginCycle = { s with rspValid := false, faultValid := false }) ∧
  (∀ s : State, s.Inv → s.fsm = .idle → s.inputs.rst = false → s.inputs.cmdValid = false →
    step s = .next (s.endCycle { s with rspValid := false, faultValid := false }))

/-- R136: an illegal word is answered in its acceptance cycle, and nothing else happens. -/
def Obligations.IllegalWordIsAnsweredIllegal : Prop :=
  ∀ (s : State) (c : Byte) (why : IllegalWord), s.Inv → s.accepts c → decode c = .illegal why →
    step s = .next (s.endCycle
      { s with rspValid := true, rspStatus := 0b01, rspData := 0x0000, faultValid := false })

/-- R137: which commands each phase allows, and that a refused one is answered ORDER and nothing else happens. -/
def Obligations.PhaseCheckRefusesOutOfOrder : Prop :=
  ∀ (s : State) (c : Byte), s.Inv → s.accepts c →
    (c = 0x10 → ∃ t, step s = .next t ∧ t.fsm = .setupInit) ∧
    (c = 0x20 → s.phase = .configured ∨ s.phase = .started → ∃ t, step s = .next t ∧ t.fsm = .saDesel) ∧
    (c = 0x30 ∨ c = 0x31 → s.phase = .started → ∃ t, step s = .next t ∧ t.fsm = .selected) ∧
    ((c = 0x20 ∧ s.phase = .unconfigured) ∨ ((c = 0x30 ∨ c = 0x31) ∧ s.phase ≠ .started) →
      step s = .next (s.endCycle
        { s with rspValid := true, rspStatus := 0b10, rspData := 0x0000, faultValid := false }))

/-- R146: outside IDLE the core samples neither `cmd_valid` nor `cmd`. -/
def Obligations.BusyCoreIgnoresTheCommandPort : Prop :=
  ∀ (s : State) (i : Inputs) (rest : List Inputs) (v : Bool) (c : Byte), s.fsm ≠ .idle →
    step { s with env := i :: rest } = step { s with env := { i with cmdValid := v, cmd := c } :: rest }

/-- R32: `miso` is read only at the sample point: a shifting byte, `bus_ready`, the end of a half-period, `sck` low. -/
def Obligations.MisoIsReadOnlyAtTheSamplePoint : Prop :=
  ∀ (s : State) (i : Inputs) (rest : List Inputs) (b : Bool),
    ¬ (s.xferActive = true ∧ i.busReady = true ∧ s.divCnt = s.params.sckDiv - 1 ∧ s.sck = false) →
    step { s with env := i :: rest } = step { s with env := { i with miso := b } :: rest }

/-- R56, R168: at the edge of every cycle a sensor whose line rises starts a conversion, and the record of every other counts the cycles since its last one. That a record once set is never cleared is the model's choice (log 7). -/
def Obligations.RisingLineStartsAConversion : Prop :=
  ∀ (s t : State) (d : Nat) (x : Sensor), s.Inv → step s = .next t → s.sensors[d]? = some x →
    (s.csN[d]? = some false → t.csN[d]? = some true →
      t.sensors[d]? = some { inFlight := true, sinceEdge := 0 }) ∧
    (¬ (s.csN[d]? = some false ∧ t.csN[d]? = some true) →
      t.sensors[d]? = some { x with sinceEdge := if x.inFlight then x.sinceEdge + 1 else x.sinceEdge })

/-! ## The instructions -/

/-- R139, the acceptance cycle of SETUP: its whole effect, so every register not named is unchanged. SETUP is allowed in every phase. -/
def Obligations.SetupAcceptanceEffect : Prop :=
  ∀ s : State, exec .setup s = .next
    { s with
      csN := List.replicate s.params.deviceCount.toNat true
      dlyCnt := s.params.cSetup - 1
      fsm := .setupInit }

/-- R96, the acceptance cycle of START_ALL: its whole effect where the phase allows it, and where it does not. -/
def Obligations.StartAllAcceptanceEffect : Prop :=
  ∀ s : State,
    (s.phase ≠ .unconfigured → exec .startAll s = .next
      { s with curDev := 0, csN := s.csN.set 0 true, dlyCnt := s.params.cSettle - 1, fsm := .saDesel }) ∧
    (s.phase = .unconfigured → exec .startAll s = .next
      { s with rspValid := true, rspStatus := 0b10, rspData := 0x0000 })

/-- R111, the acceptance cycle of READ: its whole effect where the phase allows it (the line by `driveLine`, which SelectDrivesTheRoutedLine spells out), and where it does not. -/
def Obligations.ReadAcceptanceEffect : Prop :=
  ∀ (s : State) (dev : DevIdx),
    (s.phase = .started → exec (.read dev) s = .next
      { s with
        curDev := dev, busLock := true, xferDone := false, rxByte := 0x00, sr := 0x0000
        csN := driveLine s.params dev true s.csN
        dlyCnt := s.params.cLatch - 1, fsm := .selected }) ∧
    (s.phase ≠ .started → exec (.read dev) s = .next
      { s with rspValid := true, rspStatus := 0b10, rspData := 0x0000 })

/-- R91, R93, R94: SELECT writes the one line a logical device is routed to, and nothing else; the device whose state is used is eff(dev). -/
def Obligations.SelectDrivesTheRoutedLine : Prop :=
  ∀ (s : State) (dev : DevIdx) (active : Bool),
    (s.params.deviceCount = .two →
      exec (.select dev active) s = .next { s with csN := s.csN.set dev.toNat (!active) } ∧
      eff s.params dev = dev.toNat) ∧
    (s.params.deviceCount = .one →
      eff s.params dev = 0 ∧
      (dev = 0 ∨ s.params.absentSelect = .aliasLine0 →
        exec (.select dev active) s = .next { s with csN := s.csN.set 0 (!active) }) ∧
      (dev = 1 ∧ s.params.absentSelect = .noop → exec (.select dev active) s = .next s))

/-- R104, the start of XFER_BYTE: its whole effect in the cycle that starts the byte. -/
def Obligations.XferByteStartEffect : Prop :=
  ∀ s : State, exec .xferByte s = .next { s with xferActive := true, bitCnt := 0, divCnt := 0 }

/-- R110, R111, the start of READ_RAW: its whole effect in the cycle that starts the transaction. -/
def Obligations.ReadRawStartEffect : Prop :=
  ∀ (s : State) (dev : DevIdx), exec (.readRaw dev) s = .next
    { s with
      curDev := dev, busLock := true, xferDone := false, rxByte := 0x00, sr := 0x0000
      csN := driveLine s.params dev true s.csN
      dlyCnt := s.params.cLatch - 1, fsm := .selected }

/-- R119 to R122: CLASSIFY writes no register and returns the class of the raw word, in the arithmetic of naturals. `result` is the model's own field, the way a meaning returns a value (log 12). -/
def Obligations.ClassifyReturnsTheClass : Prop :=
  ∀ (s : State) (raw : Word), exec (.classify raw) s = .next
    { s with
      result := .classified
        (if raw = 0x0000 ∨ raw = 0xFFFF ∨ raw.toNat / 4 % 2 = 1 then .lineFault
         else if raw.toNat / 8 < 10 ∨ 1200 < raw.toNat / 8 then .rangeFault (BitVec.ofNat 13 (raw.toNat / 8))
         else .valid (BitVec.ofNat 13 (raw.toNat / 8))) }

/-- R128: AVG_INIT's whole effect, with averaging and without. -/
def Obligations.AvgInitFillsEveryWindow : Prop :=
  ∀ s : State,
    (s.params.avgEnabled = true → exec .avgInit s = .next
      { s with
        windows := List.replicate s.params.deviceCount.toNat
          { slots := List.replicate (2 ^ s.params.windowBits) 100, head := 0, sum := 100 * 2 ^ s.params.windowBits } }) ∧
    (s.params.avgEnabled = false → exec .avgInit s = .next s)

/-- R129: AVG_UPDATE's whole effect: it replaces the oldest value of one device's window, moves its head and its sum, and returns the mean (in the model's field `result`, log 12). R129 gives it for an effective device and a v in [10, 1200]; that `exec` applies eff and runs on every v is the model's choice (log 10). -/
def Obligations.AvgUpdateReplacesTheOldest : Prop :=
  ∀ (s : State) (d : DevIdx) (v old : Decoded) (w : Window), s.params.avgEnabled = true →
    s.windows[eff s.params d]? = some w → w.slots[w.head]? = some old →
    exec (.avgUpdate d v) s = .next
      { s with
        windows := s.windows.set (eff s.params d)
          { slots := w.slots.set w.head v
            head := (w.head + 1) % 2 ^ s.params.windowBits
            sum := w.sum + v.toNat - old.toNat }
        result := .mean (BitVec.ofNat 13 ((w.sum + v.toNat - old.toNat) / 2 ^ s.params.windowBits)) }

/-- R132: with averaging off the filter is the identity (`result`: log 12; that AVG_UPDATE can be run at all then: log 10). -/
def Obligations.AvgUpdateIsIdentityWhenOff : Prop :=
  ∀ (s : State) (d : DevIdx) (v : Decoded), s.params.avgEnabled = false →
    exec (.avgUpdate d v) s = .next { s with result := .mean v }

/-- R129, R131: wherever the invariant holds and a SETUP is behind, AVG_UPDATE completes on every valid value, and its result lies in [10, 1200]. -/
def Obligations.AvgUpdateStaysInRange : Prop :=
  ∀ (s : State) (d : DevIdx) (v : Decoded), s.Inv → s.phase ≠ .unconfigured → s.fsm ≠ .setupInit →
    (Instr.avgUpdate d v).wellFormed = true →
    ∃ t m, exec (.avgUpdate d v) s = .next t ∧ t.result = .mean m ∧ 10 ≤ m.toNat ∧ m.toNat ≤ 1200

/-! ## The classifier and the filter -/

/-- R123: Valid(dec) holds exactly when no line fault and no range fault is detected, and carries dec. -/
def Obligations.ValidExactlyWhenNoFaultIsDetected : Prop :=
  ∀ (raw : Word) (d : Decoded), classify raw = .valid d ↔
    raw ≠ 0x0000 ∧ raw ≠ 0xFFFF ∧ raw.getLsbD 2 = false ∧
    10 ≤ raw.toNat / 8 ∧ raw.toNat / 8 ≤ 1200 ∧ d.toNat = raw.toNat / 8

/-- R124: LineFault comes before RangeFault, and each word has the class its detectors give. -/
def Obligations.LineFaultComesBeforeRangeFault : Prop :=
  ∀ raw : Word,
    (classify raw = .lineFault ↔ raw = 0x0000 ∨ raw = 0xFFFF ∨ raw.getLsbD 2 = true) ∧
    (∀ d, classify raw = .rangeFault d ↔
      ¬ (raw = 0x0000 ∨ raw = 0xFFFF ∨ raw.getLsbD 2 = true) ∧
      (raw.toNat / 8 < 10 ∨ 1200 < raw.toNat / 8) ∧ d.toNat = raw.toNat / 8)

/-- R126: bits 1:0 never change the class of a word that is not all zeros. -/
def Obligations.LowBitsDoNotChangeTheClass : Prop :=
  ∀ raw raw' : Word, raw ≠ 0 → raw' ≠ 0 → raw.toNat / 4 = raw'.toNat / 4 → classify raw = classify raw'

/-- R127: AVG_UPDATE turns the logical window [w_0, …, w_{N−1}] into [v, w_0, …, w_{N−2}]. -/
def Obligations.InsertShiftsTheLogicalWindow : Prop :=
  ∀ (k : Nat) (w : Window) (old v : Decoded), w.slots.length = 2 ^ k → w.head < 2 ^ k →
    w.slots[w.head]? = some old →
    (w.insert k old v).1.logical k = v :: (w.logical k).dropLast

/-- R134: after AVG_INIT, the result for the last of any sequence of valid values is the sum of the last N of them, INIT_VALUE standing for those before the first, divided by N and truncated. -/
def Obligations.FilterReturnsTheMeanOfTheLastN : Prop :=
  ∀ (s s0 : State) (d : DevIdx) (vs : List Decoded) (v : Decoded), s.params.avgEnabled = true →
    exec .avgInit s = .next s0 → (∀ x ∈ vs ++ [v], 10 ≤ x.toNat ∧ x.toNat ≤ 1200) →
    ∃ t m, feed d (vs ++ [v]) s0 = .next t ∧ t.result = .mean m ∧
      m.toNat = ((lastOf (2 ^ s.params.windowBits) (vs ++ [v])).map BitVec.toNat).sum / 2 ^ s.params.windowBits

/-! ## The sequencer, cycle by cycle -/

/-- R23: a wait state whose count is not over is held, the count goes down by one, and no line, lock, phase or byte-engine register changes. -/
def Obligations.WaitStatesCountDown : Prop :=
  ∀ s : State, s.Inv → s.inputs.rst = false → s.dlyCnt ≠ 0 →
    s.fsm = .selected ∨ s.fsm = .setupInit ∨ s.fsm = .saDesel ∨ s.fsm = .saAssert ∨ s.fsm = .saConv →
    ∃ t, step s = .next t ∧ t.fsm = s.fsm ∧ t.dlyCnt = s.dlyCnt - 1 ∧ t.csN = s.csN ∧
      t.busLock = s.busLock ∧ t.phase = s.phase ∧ t.curDev = s.curDev ∧ t.sck = s.sck ∧
      t.xferActive = s.xferActive ∧ t.xferDone = s.xferDone ∧ t.sr = s.sr ∧ t.rxByte = s.rxByte ∧
      t.rspValid = false ∧ t.faultValid = false

/-- R97, R98: what SA_DESEL and SA_ASSERT hold and how they end. -/
def Obligations.StartAllStatesDriveTheLine : Prop :=
  ∀ s : State, s.Inv → s.inputs.rst = false →
    (s.fsm = .saDesel → s.csN[s.curDev.toNat]? = some true ∧
      (s.dlyCnt = 0 → step s = .next (s.endCycle
        { s with
          rspValid := false, faultValid := false, csN := s.csN.set s.curDev.toNat false
          dlyCnt := s.params.cStart - 1, fsm := .saAssert }))) ∧
    (s.fsm = .saAssert → s.csN[s.curDev.toNat]? = some false ∧
      (s.dlyCnt = 0 → step s = .next (s.endCycle
        { s with
          rspValid := false, faultValid := false, csN := s.csN.set s.curDev.toNat true
          dlyCnt := s.params.cConv - 1, fsm := .saConv })))

/-- R99, R100: in SA_CONV every line is deasserted; its last cycle goes on to the next device, or completes START_ALL. -/
def Obligations.StartAllMovesOnOrCompletes : Prop :=
  ∀ s : State, s.Inv → s.inputs.rst = false → s.fsm = .saConv →
    s.csN = List.replicate s.params.deviceCount.toNat true ∧
    (s.dlyCnt = 0 → s.curDev.toNat + 1 < s.params.deviceCount.toNat → step s = .next (s.endCycle
      { s with
        rspValid := false, faultValid := false, curDev := s.curDev + 1
        dlyCnt := s.params.cSettle - 1, fsm := .saDesel })) ∧
    (s.dlyCnt = 0 → ¬ s.curDev.toNat + 1 < s.params.deviceCount.toNat → step s = .next (s.endCycle
      { s with
        faultValid := false, phase := .started, rspValid := true, rspStatus := 0b00, rspData := 0x0000
        fsm := .idle }))

/-- R112, R113, R114, R115, where no byte is being waited for: SELECTED ends in LATCHED, LATCHED starts the MSB byte, and a ready byte is stored and hands over to the LSB byte, or ends the transaction. -/
def Obligations.ReadStatesMoveTheBytes : Prop :=
  ∀ s : State, s.Inv → s.inputs.rst = false →
    (s.fsm = .selected → s.dlyCnt = 0 → step s = .next (s.endCycle
      { s with rspValid := false, faultValid := false, fsm := .latched })) ∧
    (s.fsm = .latched → step s = .next (s.endCycle
      { s with
        rspValid := false, faultValid := false, xferActive := true, bitCnt := 0, divCnt := 0, toCnt := 0
        fsm := .byteMsb })) ∧
    (s.fsm = .byteMsb → s.xferDone = true → step s = .next (s.endCycle
      { s with
        rspValid := false, faultValid := false, sr := s.rxByte ++ s.sr.setWidth 8, xferDone := false
        xferActive := true, bitCnt := 0, divCnt := 0, toCnt := 0, fsm := .byteLsb })) ∧
    (s.fsm = .byteLsb → s.xferDone = true → step s = .next (s.endCycle
      { s with
        rspValid := false, faultValid := false, sr := (s.sr >>> 8).setWidth 8 ++ s.rxByte, xferDone := false
        csN := List.replicate s.params.deviceCount.toNat true, busLock := false, fsm := .deselected }))

/-- R116: the time-out step of a cycle that waits for a byte. -/
def Obligations.TimeoutStepCountsAndAborts : Prop :=
  ∀ s : State, s.Inv → s.inputs.rst = false → s.fsm = .byteMsb ∨ s.fsm = .byteLsb → s.xferDone = false →
    (s.params.busTimeout = none → ∃ t, step s = .next t ∧ t.fsm = s.fsm ∧ t.toCnt = s.toCnt ∧
      t.csN = s.csN ∧ t.busLock = true ∧ t.toFlag = false) ∧
    (∀ n, s.params.busTimeout = some n → s.toCnt < n - 1 → ∃ t, step s = .next t ∧ t.fsm = s.fsm ∧
      t.toCnt = s.toCnt + 1 ∧ t.csN = s.csN ∧ t.busLock = true ∧ t.toFlag = false) ∧
    (∀ n, s.params.busTimeout = some n → s.toCnt = n - 1 → ∃ t, step s = .next t ∧ t.fsm = .deselected ∧
      t.xferActive = false ∧ t.xferDone = false ∧ t.sck = false ∧ t.divCnt = 0 ∧ t.bitCnt = 0 ∧
      t.csN = List.replicate s.params.deviceCount.toNat true ∧ t.busLock = false ∧ t.toFlag = true ∧
      t.windows = s.windows ∧ t.phase = s.phase)

/-- R142 (with R143): what the DESELECTED cycle of a READ writes, for each outcome; the lines and the lock are at rest already. -/
def Obligations.DeselectedReportsTheOutcome : Prop :=
  ∀ s : State, s.Inv → s.inputs.rst = false → s.fsm = .deselected →
    s.csN = List.replicate s.params.deviceCount.toNat true ∧ s.busLock = false ∧
    ∃ t, step s = .next t ∧ t.fsm = .idle ∧ t.toFlag = false ∧ t.rspValid = true ∧ t.rspStatus = 0b00 ∧
      t.phase = s.phase ∧ t.csN = s.csN ∧ t.busLock = s.busLock ∧ t.sr = s.sr ∧
      (s.toFlag = true → t.faultValid = true ∧ t.faultCode = s.params.busTimeoutCode ∧
        t.rspData = s.params.busTimeoutCode ∧ t.windows = s.windows) ∧
      (s.toFlag = false → classify s.sr = .lineFault → t.faultValid = true ∧ t.faultCode = 0xFFFF ∧
        t.rspData = 0xFFFF ∧ t.windows = s.windows) ∧
      (∀ x, s.toFlag = false → classify s.sr = .rangeFault x → t.faultValid = true ∧
        t.faultCode = x.setWidth 16 ∧ t.rspData = 0x0FFF ∧ t.windows = s.windows) ∧
      (∀ x, s.toFlag = false → classify s.sr = .valid x → t.faultValid = false ∧ t.faultCode = s.faultCode ∧
        (s.params.avgEnabled = false → t.rspData = x.setWidth 16 ∧ t.windows = s.windows) ∧
        (s.params.avgEnabled = true → ∃ u m, exec (.avgUpdate s.curDev x) s = .next u ∧
          u.result = .mean m ∧ t.windows = u.windows ∧ t.rspData = m.setWidth 16))

/-! ## Rules of the whole machine -/

/-- R39: `phase` is written only by the end of SETUP, the end of START_ALL, and reset. -/
def Obligations.PhaseIsWrittenOnlyByTheBootOrder : Prop :=
  ∀ s t : State, s.Inv → step s = .next t → t.phase ≠ s.phase →
    (s.inputs.rst = true ∧ t.phase = .unconfigured) ∨
    (s.inputs.rst = false ∧ s.fsm = .setupInit ∧ s.dlyCnt = 0 ∧ t.phase = .configured) ∨
    (s.inputs.rst = false ∧ s.fsm = .saConv ∧ s.dlyCnt = 0 ∧ t.phase = .started)

/-- R53, R133: the windows change only in a cycle of SETUP_INIT, or in the DESELECTED cycle of a READ that did not time out and is Valid. -/
def Obligations.OnlySetupAndValidReadsChangeWindows : Prop :=
  ∀ s t : State, s.Inv → step s = .next t → t.windows ≠ s.windows →
    s.inputs.rst = false ∧
    (s.fsm = .setupInit ∨ (s.fsm = .deselected ∧ s.toFlag = false ∧ ∃ x, classify s.sr = .valid x))

/-- R158, R153: a fault event is raised only by the DESELECTED cycle of a READ. The whole next state: that cycle writes the event, the DONE response, `to_flag` and `fsm`, and nothing else, so the core is in IDLE and accepts the next command, and no phase, window or line has changed. The codes are in DeselectedReportsTheOutcome. -/
def Obligations.FaultEventsLeaveTheMachineGoing : Prop :=
  ∀ s t : State, s.Inv → step s = .next t → t.faultValid = true →
    s.fsm = .deselected ∧ s.inputs.rst = false ∧
    t = s.endCycle
      { s with
        faultValid := true, faultCode := t.faultCode
        rspValid := true, rspStatus := 0b00, rspData := t.rspData
        toFlag := false, fsm := .idle } ∧
    (t.inputs.rst = false → t.cmdReady = true) ∧
    t.phase = s.phase ∧ t.windows = s.windows ∧ t.csN = s.csN

/-- R149: the code of a fault event tells its kind. -/
def Obligations.FaultCodeTellsTheKind : Prop :=
  ∀ s t : State, s.Inv → step s = .next t → t.faultValid = true →
    (t.faultCode = s.params.busTimeoutCode ↔ s.toFlag = true) ∧
    (t.faultCode = 0xFFFF ↔ s.toFlag = false ∧ classify s.sr = .lineFault) ∧
    (t.faultCode.toNat ≤ 0x1FFF ↔ s.toFlag = false ∧ ∃ x, classify s.sr = .rangeFault x)

/-- R148 (with R131): every READ that terminates answers DONE with a value in its set. -/
def Obligations.ReadResultsStayInTheirSet : Prop :=
  ∀ s : State, s.Inv → s.inputs.rst = false → s.fsm = .deselected →
    ∃ t, step s = .next t ∧ t.rspValid = true ∧ t.rspStatus = 0b00 ∧
      ((10 ≤ t.rspData.toNat ∧ t.rspData.toNat ≤ 1200) ∨ t.rspData = 0xFFFF ∨ t.rspData = 0x0FFF ∨
        (s.params.busTimeout ≠ none ∧ t.rspData = s.params.busTimeoutCode))

/-- R51, R52: without a reset, the response data and status change only with a response, and the fault code only with a fault event. -/
def Obligations.ResponseAndFaultCodeAreHeld : Prop :=
  ∀ s t : State, s.inputs.rst = false → step s = .next t →
    (t.rspValid = false → t.rspStatus = s.rspStatus ∧ t.rspData = s.rspData) ∧
    (t.faultValid = false → t.faultCode = s.faultCode)

/-- R102: no cycle of a START_ALL touches a window, the raw word, the byte engine or `bus_lock`, and none raises a fault event. -/
def Obligations.StartAllLeavesTheReaderAlone : Prop :=
  ∀ s t : State, s.Inv → s.inputs.rst = false → step s = .next t →
    (s.accepts 0x20 ∨ s.fsm = .saDesel ∨ s.fsm = .saAssert ∨ s.fsm = .saConv) →
    t.windows = s.windows ∧ t.sr = s.sr ∧ t.rxByte = s.rxByte ∧ t.bitCnt = s.bitCnt ∧ t.divCnt = s.divCnt ∧
    t.xferActive = s.xferActive ∧ t.xferDone = s.xferDone ∧ t.sck = s.sck ∧ t.busLock = false ∧
    t.faultValid = false

/-- R58, R31, R109: no cycle changes a parameter of the block or raises `mosi`. -/
def Obligations.ParametersAndMosiAreConstant : Prop :=
  ∀ s t : State, step s = .next t → t.params = s.params ∧ (s.mosi = false → t.mosi = false)

/-! ## Runs -/

/-- R140, R145, R180: SETUP answers C_SETUP + 1 cycles after its acceptance, with every window initialised and the phase CONFIGURED. -/
def Obligations.SetupCompletesOnTime : Prop :=
  ∀ s : State, s.Inv → s.accepts 0x10 → s.noReset (s.params.cSetup + 1) →
    ∃ t, runFor (s.params.cSetup + 1) s = .next t ∧ t.fsm = .idle ∧ t.phase = .configured ∧
      t.rspValid = true ∧ t.rspStatus = 0b00 ∧ t.rspData = 0x0000 ∧ t.faultValid = false ∧
      t.faultCode = s.faultCode ∧ t.csN = List.replicate s.params.deviceCount.toNat true ∧
      (s.params.avgEnabled = true → t.windows = List.replicate s.params.deviceCount.toNat
        { slots := List.replicate (2 ^ s.params.windowBits) 100, head := 0, sum := 100 * 2 ^ s.params.windowBits }) ∧
      (s.params.avgEnabled = false → t.windows = [])

/-- R103, R145: START_ALL answers DEVICE_COUNT·S + 1 cycles after its acceptance, the phase is STARTED, and the windows are as they were. -/
def Obligations.StartAllCompletesOnTime : Prop :=
  ∀ s : State, s.Inv → s.accepts 0x20 → s.phase ≠ .unconfigured →
    s.noReset (s.params.deviceCount.toNat * startAllSpan s.params + 1) →
    ∃ t, runFor (s.params.deviceCount.toNat * startAllSpan s.params + 1) s = .next t ∧ t.fsm = .idle ∧
      t.phase = .started ∧ t.rspValid = true ∧ t.rspStatus = 0b00 ∧ t.rspData = 0x0000 ∧
      t.faultValid = false ∧ t.faultCode = s.faultCode ∧ t.windows = s.windows ∧
      t.csN = List.replicate s.params.deviceCount.toNat true

/-- R103: in every cycle of a START_ALL the lines are those of the sequence: device d is asserted in exactly the C_START cycles from d·S + C_SETTLE + 1 on. -/
def Obligations.StartAllAssertsEachLineInTurn : Prop :=
  ∀ (s : State) (c : Nat), s.Inv → s.accepts 0x20 → s.phase ≠ .unconfigured →
    c ≤ s.params.deviceCount.toNat * startAllSpan s.params + 1 → s.noReset c →
    ∃ t, runFor c s = .next t ∧ t.csN = startAllLines s.params c

/-- R101: when START_ALL answers, every sensor has had its conversion start at least C_CONV cycles earlier. That `inFlight` means such an edge was seen, and stays set, is the model's choice (log 7). -/
def Obligations.SensorsConvertBeforeStartAllAnswers : Prop :=
  ∀ s : State, s.Inv → s.accepts 0x20 → s.phase ≠ .unconfigured →
    s.noReset (s.params.deviceCount.toNat * startAllSpan s.params + 1) →
    ∃ t, runFor (s.params.deviceCount.toNat * startAllSpan s.params + 1) s = .next t ∧
      t.rspValid = true ∧ t.sensors.length = s.params.deviceCount.toNat ∧
      ∀ x ∈ t.sensors, x.inFlight = true ∧ s.params.cConv ≤ x.sinceEdge

/-- R104 to R108: a byte at its start that the time-out leaves time for is complete after the n cycles that hold its 16·SCK_DIV ready cycles, and its eight bits are those of `miso` at the eight rising edges, the first uppermost; with `bus_ready` = 1 throughout, the edges are in cycles SCK_DIV − 1 + 2·SCK_DIV·j. -/
def Obligations.ByteShiftsInEightBits : Prop :=
  ∀ (s : State) (n : Nat), s.Inv → s.xferActive = true → s.sck = false → s.bitCnt = 0 → s.divCnt = 0 →
    (∀ b, s.params.busTimeout = some b → s.toCnt + n < b) → s.noReset n → s.byteFills 0 n →
    ∃ t, runFor n s = .next t ∧ t.fsm = s.fsm ∧ t.xferActive = false ∧
      t.xferDone = true ∧ t.sck = false ∧ t.sr = s.sr ∧ t.rxByte = s.byteTaken 0 n ∧
      (n = 16 * s.params.sckDiv → t.rxByte = BitVec.ofNat 8 (assembleBits
        (fun j => (s.inputAt (s.params.sckDiv - 1 + 2 * s.params.sckDiv * j)).miso) 8))

/-- R118, R144, R117: a READ whose two bytes see k and l cycles without `bus_ready`, and which the time-out leaves time for, answers C_LATCH + 5 + 32·SCK_DIV + k + l cycles after its acceptance with what the transaction-level rule gives for the sixteen bits sampled, first bit uppermost; with no such cycle, they are the bits of R118's sixteen edges. -/
def Obligations.ReadAnswersAsItsTransaction : Prop :=
  ∀ (s : State) (dev : DevIdx) (k l : Nat), s.Inv → s.phase = .started → s.accepts (wordC8 0x3 dev) →
    (∀ b, s.params.busTimeout = some b → 16 * s.params.sckDiv + k < b ∧ 16 * s.params.sckDiv + l < b) →
    s.noReset (s.params.cLatch + 5 + 32 * s.params.sckDiv + k + l) →
    s.byteFills (msbStart s.params) (16 * s.params.sckDiv + k) →
    s.byteFills (lsbStart s.params k) (16 * s.params.sckDiv + l) →
    ∃ t, runFor (s.params.cLatch + 5 + 32 * s.params.sckDiv + k + l) s = .next t ∧
      t.fsm = .idle ∧ t.phase = .started ∧ t.sr = s.wordTaken k l ∧ t.busLock = false ∧
      (k = 0 → l = 0 → t.sr = s.rawWord) ∧
      t.csN = List.replicate s.params.deviceCount.toNat true ∧ t.rspValid = true ∧ t.rspStatus = 0b00 ∧
      (classify (s.wordTaken k l) = .lineFault → t.faultValid = true ∧ t.faultCode = 0xFFFF ∧
        t.rspData = 0xFFFF ∧ t.windows = s.windows) ∧
      (∀ x, classify (s.wordTaken k l) = .rangeFault x → t.faultValid = true ∧ t.faultCode = x.setWidth 16 ∧
        t.rspData = 0x0FFF ∧ t.windows = s.windows) ∧
      (∀ x, classify (s.wordTaken k l) = .valid x → t.faultValid = false ∧ t.faultCode = s.faultCode ∧
        ∃ u m, exec (.avgUpdate dev x) s = .next u ∧ u.result = .mean m ∧
          t.windows = u.windows ∧ t.rspData = m.setWidth 16)

/-- R118, R33: with `bus_ready` = 1 a READ holds its line and the bus lock from the cycle after its acceptance for C_LATCH + 3 + 32·SCK_DIV cycles, and in no other cycle until it answers. -/
def Obligations.ReadHoldsItsLineAndTheLock : Prop :=
  ∀ (s : State) (dev : DevIdx) (c : Nat), s.Inv → s.phase = .started → s.accepts (wordC8 0x3 dev) →
    c ≤ s.params.cLatch + 5 + 32 * s.params.sckDiv → s.noReset c →
    (∀ j < c, (s.inputAt j).busReady = true) →
    ∃ t, runFor c s = .next t ∧
      (1 ≤ c ∧ c ≤ s.params.cLatch + 3 + 32 * s.params.sckDiv →
        t.csN = driveLine s.params dev true (List.replicate s.params.deviceCount.toNat true) ∧ t.busLock = true) ∧
      (¬ (1 ≤ c ∧ c ≤ s.params.cLatch + 3 + 32 * s.params.sckDiv) →
        t.csN = List.replicate s.params.deviceCount.toNat true ∧ t.busLock = false)

/-- R180, R116: a READ whose MSB byte gets fewer than its 16·SCK_DIV ready cycles in the first T − 1 cycles of its wait (as when the bus is not ready from its start) answers BusTimeout C_LATCH + 3 + T cycles after its acceptance. -/
def Obligations.ReadTimesOutInItsFirstByte : Prop :=
  ∀ (s : State) (dev : DevIdx) (n : Nat), s.Inv → s.phase = .started → s.accepts (wordC8 0x3 dev) →
    s.params.busTimeout = some n → s.noReset (s.params.cLatch + 3 + n) →
    (s.readyCycles (msbStart s.params) (n - 1)).length < 16 * s.params.sckDiv →
    ∃ t, runFor (s.params.cLatch + 3 + n) s = .next t ∧ t.fsm = .idle ∧ t.rspValid = true ∧
      t.rspStatus = 0b00 ∧ t.rspData = s.params.busTimeoutCode ∧ t.faultValid = true ∧
      t.faultCode = s.params.busTimeoutCode ∧ t.windows = s.windows ∧ t.toFlag = false ∧
      t.csN = List.replicate s.params.deviceCount.toNat true ∧ t.busLock = false

/-- R177: with BUS_TIMEOUT = T every READ answers within C_LATCH + 3 + 2·T cycles, whatever `bus_ready` does. -/
def Obligations.EveryReadEndsWithinTheTimeout : Prop :=
  ∀ (s : State) (dev : DevIdx) (n : Nat), s.Inv → s.phase = .started → s.accepts (wordC8 0x3 dev) →
    s.params.busTimeout = some n → s.noReset (s.params.cLatch + 3 + 2 * n) →
    ∃ m ≤ s.params.cLatch + 3 + 2 * n, ∃ t, 0 < m ∧ runFor m s = .next t ∧ t.fsm = .idle ∧
      t.rspValid = true ∧ t.rspStatus = 0b00

/-- R177: with no time-out, a READ answers once the bus has been ready for the 16·SCK_DIV cycles of each byte and one more (the hand-over cycle between the bytes shifts nothing): at most two cycles after the last of them. -/
def Obligations.ReadEndsOnceTheBusWasReady : Prop :=
  ∀ (s : State) (dev : DevIdx) (n : Nat), s.Inv → s.phase = .started → s.accepts (wordC8 0x3 dev) →
    s.params.busTimeout = none → s.noReset (s.params.cLatch + 2 + n + 2) →
    32 * s.params.sckDiv + 1 ≤
      (List.range n).countP (fun j => (s.inputAt (s.params.cLatch + 2 + j)).busReady) →
    ∃ m ≤ s.params.cLatch + 2 + n + 2, ∃ t, 0 < m ∧ runFor m s = .next t ∧ t.fsm = .idle ∧
      t.rspValid = true ∧ t.rspStatus = 0b00

/-- R108: a READ whose byte gets no `bus_ready` waits for as long as that lasts, or up to the time-out where there is one: all six registers of the byte engine, the line and the lock are held, and the core accepts nothing. -/
def Obligations.StuckBusHangsTheRead : Prop :=
  ∀ (s : State) (n : Nat), s.Inv → s.fsm = .byteMsb ∨ s.fsm = .byteLsb → s.xferDone = false →
    (∀ b, s.params.busTimeout = some b → s.toCnt + n < b) → s.noReset n →
    (∀ j < n, (s.inputAt j).busReady = false) →
    ∃ t, runFor n s = .next t ∧ t.fsm = s.fsm ∧ t.csN = s.csN ∧ t.busLock = true ∧ t.cmdReady = false ∧
      t.xferActive = true ∧ t.xferDone = false ∧ t.sck = s.sck ∧ t.divCnt = s.divCnt ∧ t.bitCnt = s.bitCnt ∧
      t.rxByte = s.rxByte ∧ t.sr = s.sr ∧ t.windows = s.windows

/-- R180, R116: a READ whose MSB byte completes, with k cycles without `bus_ready`, and whose LSB byte gets fewer than its 16·SCK_DIV ready cycles in the first T − 1 cycles of its wait (as when the bus is not ready from its start) answers BusTimeout C_LATCH + 4 + 16·SCK_DIV + k + T cycles after its acceptance. -/
def Obligations.ReadTimesOutInItsSecondByte : Prop :=
  ∀ (s : State) (dev : DevIdx) (n k : Nat), s.Inv → s.phase = .started → s.accepts (wordC8 0x3 dev) →
    s.params.busTimeout = some n → 16 * s.params.sckDiv + k < n →
    s.noReset (s.params.cLatch + 4 + 16 * s.params.sckDiv + k + n) →
    s.byteFills (msbStart s.params) (16 * s.params.sckDiv + k) →
    (s.readyCycles (lsbStart s.params k) (n - 1)).length < 16 * s.params.sckDiv →
    ∃ t, runFor (s.params.cLatch + 4 + 16 * s.params.sckDiv + k + n) s = .next t ∧ t.fsm = .idle ∧
      t.rspValid = true ∧ t.rspStatus = 0b00 ∧ t.rspData = s.params.busTimeoutCode ∧ t.faultValid = true ∧
      t.faultCode = s.params.busTimeoutCode ∧ t.windows = s.windows ∧ t.toFlag = false ∧
      t.csN = List.replicate s.params.deviceCount.toNat true ∧ t.busLock = false

/-- R105 to R108, R116: one cycle of a shifting byte, at any point of it, with and without `bus_ready`, with and without a time-out. Where the time-out step does not abort (c is the value it leaves in `to_cnt`), the whole next state: the engine holds, counts, samples, counts a bit, or completes the byte. Where it aborts, the abort's values win. -/
def Obligations.ByteEngineStepsInEveryCycle : Prop :=
  ∀ s : State, s.Inv → s.inputs.rst = false → s.xferActive = true →
    (∀ c : Nat, (s.params.busTimeout = none → c = s.toCnt) →
      (∀ n, s.params.busTimeout = some n → s.toCnt ≠ n - 1 ∧ c = s.toCnt + 1) →
      (s.inputs.busReady = false → step s = .next (s.endCycle
        { s with rspValid := false, faultValid := false, toCnt := c })) ∧
      (s.inputs.busReady = true → s.divCnt ≠ s.params.sckDiv - 1 → step s = .next (s.endCycle
        { s with rspValid := false, faultValid := false, toCnt := c, divCnt := s.divCnt + 1 })) ∧
      (s.inputs.busReady = true → s.divCnt = s.params.sckDiv - 1 → s.sck = false → step s = .next (s.endCycle
        { s with
          rspValid := false, faultValid := false, toCnt := c, divCnt := 0, sck := true
          rxByte := s.rxByte.setWidth 7 ++ BitVec.ofBool s.inputs.miso })) ∧
      (s.inputs.busReady = true → s.divCnt = s.params.sckDiv - 1 → s.sck = true → s.bitCnt ≠ 7 →
        step s = .next (s.endCycle
          { s with
            rspValid := false, faultValid := false, toCnt := c, divCnt := 0, sck := false
            bitCnt := s.bitCnt + 1 })) ∧
      (s.inputs.busReady = true → s.divCnt = s.params.sckDiv - 1 → s.sck = true → s.bitCnt = 7 →
        step s = .next (s.endCycle
          { s with
            rspValid := false, faultValid := false, toCnt := c, divCnt := 0, sck := false
            xferActive := false, xferDone := true }))) ∧
    (∀ n, s.params.busTimeout = some n → s.toCnt = n - 1 → ∃ t, step s = .next t ∧ t.fsm = .deselected ∧
      t.xferActive = false ∧ t.xferDone = false ∧ t.sck = false ∧ t.divCnt = 0 ∧ t.bitCnt = 0 ∧ t.toFlag = true ∧
      (s.inputs.busReady = true ∧ s.divCnt = s.params.sckDiv - 1 ∧ s.sck = false →
        t.rxByte = s.rxByte.setWidth 7 ++ BitVec.ofBool s.inputs.miso) ∧
      (¬ (s.inputs.busReady = true ∧ s.divCnt = s.params.sckDiv - 1 ∧ s.sck = false) → t.rxByte = s.rxByte))
end

