-- ==== Sys2Proof/Laws/State.lean ====
section
/-! SUPPORT. One lemma for each field of State under each shared operation, so that no proof unfolds a record update. -/

namespace Sys2Proof.Machine

/-! ### clearPulses -/

@[simp] theorem clearPulses_params (s : State) : (s.clearPulses).params = s.params := rfl
@[simp] theorem clearPulses_fsm (s : State) : (s.clearPulses).fsm = s.fsm := rfl
@[simp] theorem clearPulses_phase (s : State) : (s.clearPulses).phase = s.phase := rfl
@[simp] theorem clearPulses_curDev (s : State) : (s.clearPulses).curDev = s.curDev := rfl
@[simp] theorem clearPulses_dlyCnt (s : State) : (s.clearPulses).dlyCnt = s.dlyCnt := rfl
@[simp] theorem clearPulses_sr (s : State) : (s.clearPulses).sr = s.sr := rfl
@[simp] theorem clearPulses_rxByte (s : State) : (s.clearPulses).rxByte = s.rxByte := rfl
@[simp] theorem clearPulses_bitCnt (s : State) : (s.clearPulses).bitCnt = s.bitCnt := rfl
@[simp] theorem clearPulses_divCnt (s : State) : (s.clearPulses).divCnt = s.divCnt := rfl
@[simp] theorem clearPulses_xferActive (s : State) : (s.clearPulses).xferActive = s.xferActive := rfl
@[simp] theorem clearPulses_xferDone (s : State) : (s.clearPulses).xferDone = s.xferDone := rfl
@[simp] theorem clearPulses_toCnt (s : State) : (s.clearPulses).toCnt = s.toCnt := rfl
@[simp] theorem clearPulses_toFlag (s : State) : (s.clearPulses).toFlag = s.toFlag := rfl
@[simp] theorem clearPulses_csN (s : State) : (s.clearPulses).csN = s.csN := rfl
@[simp] theorem clearPulses_sck (s : State) : (s.clearPulses).sck = s.sck := rfl
@[simp] theorem clearPulses_mosi (s : State) : (s.clearPulses).mosi = s.mosi := rfl
@[simp] theorem clearPulses_busLock (s : State) : (s.clearPulses).busLock = s.busLock := rfl
@[simp] theorem clearPulses_rspValid (s : State) : (s.clearPulses).rspValid = false := rfl
@[simp] theorem clearPulses_rspStatus (s : State) : (s.clearPulses).rspStatus = s.rspStatus := rfl
@[simp] theorem clearPulses_rspData (s : State) : (s.clearPulses).rspData = s.rspData := rfl
@[simp] theorem clearPulses_faultValid (s : State) : (s.clearPulses).faultValid = false := rfl
@[simp] theorem clearPulses_faultCode (s : State) : (s.clearPulses).faultCode = s.faultCode := rfl
@[simp] theorem clearPulses_windows (s : State) : (s.clearPulses).windows = s.windows := rfl
@[simp] theorem clearPulses_sensors (s : State) : (s.clearPulses).sensors = s.sensors := rfl
@[simp] theorem clearPulses_env (s : State) : (s.clearPulses).env = s.env := rfl
@[simp] theorem clearPulses_cycle (s : State) : (s.clearPulses).cycle = s.cycle := rfl
@[simp] theorem clearPulses_result (s : State) : (s.clearPulses).result = s.result := rfl

/-! ### respond -/

section
variable (st : Status) (data : Word)

@[simp] theorem respond_params (s : State) : (s.respond st data).params = s.params := rfl
@[simp] theorem respond_fsm (s : State) : (s.respond st data).fsm = s.fsm := rfl
@[simp] theorem respond_phase (s : State) : (s.respond st data).phase = s.phase := rfl
@[simp] theorem respond_curDev (s : State) : (s.respond st data).curDev = s.curDev := rfl
@[simp] theorem respond_dlyCnt (s : State) : (s.respond st data).dlyCnt = s.dlyCnt := rfl
@[simp] theorem respond_sr (s : State) : (s.respond st data).sr = s.sr := rfl
@[simp] theorem respond_rxByte (s : State) : (s.respond st data).rxByte = s.rxByte := rfl
@[simp] theorem respond_bitCnt (s : State) : (s.respond st data).bitCnt = s.bitCnt := rfl
@[simp] theorem respond_divCnt (s : State) : (s.respond st data).divCnt = s.divCnt := rfl
@[simp] theorem respond_xferActive (s : State) : (s.respond st data).xferActive = s.xferActive := rfl
@[simp] theorem respond_xferDone (s : State) : (s.respond st data).xferDone = s.xferDone := rfl
@[simp] theorem respond_toCnt (s : State) : (s.respond st data).toCnt = s.toCnt := rfl
@[simp] theorem respond_toFlag (s : State) : (s.respond st data).toFlag = s.toFlag := rfl
@[simp] theorem respond_csN (s : State) : (s.respond st data).csN = s.csN := rfl
@[simp] theorem respond_sck (s : State) : (s.respond st data).sck = s.sck := rfl
@[simp] theorem respond_mosi (s : State) : (s.respond st data).mosi = s.mosi := rfl
@[simp] theorem respond_busLock (s : State) : (s.respond st data).busLock = s.busLock := rfl
@[simp] theorem respond_rspValid (s : State) : (s.respond st data).rspValid = true := rfl
@[simp] theorem respond_rspStatus (s : State) : (s.respond st data).rspStatus = st.code := rfl
@[simp] theorem respond_rspData (s : State) : (s.respond st data).rspData = data := rfl
@[simp] theorem respond_faultValid (s : State) : (s.respond st data).faultValid = s.faultValid := rfl
@[simp] theorem respond_faultCode (s : State) : (s.respond st data).faultCode = s.faultCode := rfl
@[simp] theorem respond_windows (s : State) : (s.respond st data).windows = s.windows := rfl
@[simp] theorem respond_sensors (s : State) : (s.respond st data).sensors = s.sensors := rfl
@[simp] theorem respond_env (s : State) : (s.respond st data).env = s.env := rfl
@[simp] theorem respond_cycle (s : State) : (s.respond st data).cycle = s.cycle := rfl
@[simp] theorem respond_result (s : State) : (s.respond st data).result = s.result := rfl

end

/-! ### raiseFault -/

section
variable (code : Word)

@[simp] theorem raiseFault_params (s : State) : (s.raiseFault code).params = s.params := rfl
@[simp] theorem raiseFault_fsm (s : State) : (s.raiseFault code).fsm = s.fsm := rfl
@[simp] theorem raiseFault_phase (s : State) : (s.raiseFault code).phase = s.phase := rfl
@[simp] theorem raiseFault_curDev (s : State) : (s.raiseFault code).curDev = s.curDev := rfl
@[simp] theorem raiseFault_dlyCnt (s : State) : (s.raiseFault code).dlyCnt = s.dlyCnt := rfl
@[simp] theorem raiseFault_sr (s : State) : (s.raiseFault code).sr = s.sr := rfl
@[simp] theorem raiseFault_rxByte (s : State) : (s.raiseFault code).rxByte = s.rxByte := rfl
@[simp] theorem raiseFault_bitCnt (s : State) : (s.raiseFault code).bitCnt = s.bitCnt := rfl
@[simp] theorem raiseFault_divCnt (s : State) : (s.raiseFault code).divCnt = s.divCnt := rfl
@[simp] theorem raiseFault_xferActive (s : State) : (s.raiseFault code).xferActive = s.xferActive := rfl
@[simp] theorem raiseFault_xferDone (s : State) : (s.raiseFault code).xferDone = s.xferDone := rfl
@[simp] theorem raiseFault_toCnt (s : State) : (s.raiseFault code).toCnt = s.toCnt := rfl
@[simp] theorem raiseFault_toFlag (s : State) : (s.raiseFault code).toFlag = s.toFlag := rfl
@[simp] theorem raiseFault_csN (s : State) : (s.raiseFault code).csN = s.csN := rfl
@[simp] theorem raiseFault_sck (s : State) : (s.raiseFault code).sck = s.sck := rfl
@[simp] theorem raiseFault_mosi (s : State) : (s.raiseFault code).mosi = s.mosi := rfl
@[simp] theorem raiseFault_busLock (s : State) : (s.raiseFault code).busLock = s.busLock := rfl
@[simp] theorem raiseFault_rspValid (s : State) : (s.raiseFault code).rspValid = s.rspValid := rfl
@[simp] theorem raiseFault_rspStatus (s : State) : (s.raiseFault code).rspStatus = s.rspStatus := rfl
@[simp] theorem raiseFault_rspData (s : State) : (s.raiseFault code).rspData = s.rspData := rfl
@[simp] theorem raiseFault_faultValid (s : State) : (s.raiseFault code).faultValid = true := rfl
@[simp] theorem raiseFault_faultCode (s : State) : (s.raiseFault code).faultCode = code := rfl
@[simp] theorem raiseFault_windows (s : State) : (s.raiseFault code).windows = s.windows := rfl
@[simp] theorem raiseFault_sensors (s : State) : (s.raiseFault code).sensors = s.sensors := rfl
@[simp] theorem raiseFault_env (s : State) : (s.raiseFault code).env = s.env := rfl
@[simp] theorem raiseFault_cycle (s : State) : (s.raiseFault code).cycle = s.cycle := rfl
@[simp] theorem raiseFault_result (s : State) : (s.raiseFault code).result = s.result := rfl

end

/-! ### takeFault -/

section
variable (code sentinel : Word)

@[simp] theorem takeFault_params (s : State) : (s.takeFault code sentinel).params = s.params := rfl
@[simp] theorem takeFault_fsm (s : State) : (s.takeFault code sentinel).fsm = s.fsm := rfl
@[simp] theorem takeFault_phase (s : State) : (s.takeFault code sentinel).phase = s.phase := rfl
@[simp] theorem takeFault_curDev (s : State) : (s.takeFault code sentinel).curDev = s.curDev := rfl
@[simp] theorem takeFault_dlyCnt (s : State) : (s.takeFault code sentinel).dlyCnt = s.dlyCnt := rfl
@[simp] theorem takeFault_sr (s : State) : (s.takeFault code sentinel).sr = s.sr := rfl
@[simp] theorem takeFault_rxByte (s : State) : (s.takeFault code sentinel).rxByte = s.rxByte := rfl
@[simp] theorem takeFault_bitCnt (s : State) : (s.takeFault code sentinel).bitCnt = s.bitCnt := rfl
@[simp] theorem takeFault_divCnt (s : State) : (s.takeFault code sentinel).divCnt = s.divCnt := rfl
@[simp] theorem takeFault_xferActive (s : State) : (s.takeFault code sentinel).xferActive = s.xferActive := rfl
@[simp] theorem takeFault_xferDone (s : State) : (s.takeFault code sentinel).xferDone = s.xferDone := rfl
@[simp] theorem takeFault_toCnt (s : State) : (s.takeFault code sentinel).toCnt = s.toCnt := rfl
@[simp] theorem takeFault_toFlag (s : State) : (s.takeFault code sentinel).toFlag = s.toFlag := rfl
@[simp] theorem takeFault_csN (s : State) : (s.takeFault code sentinel).csN = s.csN := rfl
@[simp] theorem takeFault_sck (s : State) : (s.takeFault code sentinel).sck = s.sck := rfl
@[simp] theorem takeFault_mosi (s : State) : (s.takeFault code sentinel).mosi = s.mosi := rfl
@[simp] theorem takeFault_busLock (s : State) : (s.takeFault code sentinel).busLock = s.busLock := rfl
@[simp] theorem takeFault_rspValid (s : State) : (s.takeFault code sentinel).rspValid = true := rfl
@[simp] theorem takeFault_rspStatus (s : State) : (s.takeFault code sentinel).rspStatus = Status.done.code := rfl
@[simp] theorem takeFault_rspData (s : State) : (s.takeFault code sentinel).rspData = sentinel := rfl
@[simp] theorem takeFault_faultValid (s : State) : (s.takeFault code sentinel).faultValid = true := rfl
@[simp] theorem takeFault_faultCode (s : State) : (s.takeFault code sentinel).faultCode = code := rfl
@[simp] theorem takeFault_windows (s : State) : (s.takeFault code sentinel).windows = s.windows := rfl
@[simp] theorem takeFault_sensors (s : State) : (s.takeFault code sentinel).sensors = s.sensors := rfl
@[simp] theorem takeFault_env (s : State) : (s.takeFault code sentinel).env = s.env := rfl
@[simp] theorem takeFault_cycle (s : State) : (s.takeFault code sentinel).cycle = s.cycle := rfl
@[simp] theorem takeFault_result (s : State) : (s.takeFault code sentinel).result = s.result := rfl

end

/-! ### refuseOrder -/

@[simp] theorem refuseOrder_params (s : State) : (s.refuseOrder).params = s.params := rfl
@[simp] theorem refuseOrder_fsm (s : State) : (s.refuseOrder).fsm = s.fsm := rfl
@[simp] theorem refuseOrder_phase (s : State) : (s.refuseOrder).phase = s.phase := rfl
@[simp] theorem refuseOrder_curDev (s : State) : (s.refuseOrder).curDev = s.curDev := rfl
@[simp] theorem refuseOrder_dlyCnt (s : State) : (s.refuseOrder).dlyCnt = s.dlyCnt := rfl
@[simp] theorem refuseOrder_sr (s : State) : (s.refuseOrder).sr = s.sr := rfl
@[simp] theorem refuseOrder_rxByte (s : State) : (s.refuseOrder).rxByte = s.rxByte := rfl
@[simp] theorem refuseOrder_bitCnt (s : State) : (s.refuseOrder).bitCnt = s.bitCnt := rfl
@[simp] theorem refuseOrder_divCnt (s : State) : (s.refuseOrder).divCnt = s.divCnt := rfl
@[simp] theorem refuseOrder_xferActive (s : State) : (s.refuseOrder).xferActive = s.xferActive := rfl
@[simp] theorem refuseOrder_xferDone (s : State) : (s.refuseOrder).xferDone = s.xferDone := rfl
@[simp] theorem refuseOrder_toCnt (s : State) : (s.refuseOrder).toCnt = s.toCnt := rfl
@[simp] theorem refuseOrder_toFlag (s : State) : (s.refuseOrder).toFlag = s.toFlag := rfl
@[simp] theorem refuseOrder_csN (s : State) : (s.refuseOrder).csN = s.csN := rfl
@[simp] theorem refuseOrder_sck (s : State) : (s.refuseOrder).sck = s.sck := rfl
@[simp] theorem refuseOrder_mosi (s : State) : (s.refuseOrder).mosi = s.mosi := rfl
@[simp] theorem refuseOrder_busLock (s : State) : (s.refuseOrder).busLock = s.busLock := rfl
@[simp] theorem refuseOrder_rspValid (s : State) : (s.refuseOrder).rspValid = true := rfl
@[simp] theorem refuseOrder_rspStatus (s : State) : (s.refuseOrder).rspStatus = Status.order.code := rfl
@[simp] theorem refuseOrder_rspData (s : State) : (s.refuseOrder).rspData = 0 := rfl
@[simp] theorem refuseOrder_faultValid (s : State) : (s.refuseOrder).faultValid = s.faultValid := rfl
@[simp] theorem refuseOrder_faultCode (s : State) : (s.refuseOrder).faultCode = s.faultCode := rfl
@[simp] theorem refuseOrder_windows (s : State) : (s.refuseOrder).windows = s.windows := rfl
@[simp] theorem refuseOrder_sensors (s : State) : (s.refuseOrder).sensors = s.sensors := rfl
@[simp] theorem refuseOrder_env (s : State) : (s.refuseOrder).env = s.env := rfl
@[simp] theorem refuseOrder_cycle (s : State) : (s.refuseOrder).cycle = s.cycle := rfl
@[simp] theorem refuseOrder_result (s : State) : (s.refuseOrder).result = s.result := rfl

/-! ### refuseIllegal -/

@[simp] theorem refuseIllegal_params (s : State) : (s.refuseIllegal).params = s.params := rfl
@[simp] theorem refuseIllegal_fsm (s : State) : (s.refuseIllegal).fsm = s.fsm := rfl
@[simp] theorem refuseIllegal_phase (s : State) : (s.refuseIllegal).phase = s.phase := rfl
@[simp] theorem refuseIllegal_curDev (s : State) : (s.refuseIllegal).curDev = s.curDev := rfl
@[simp] theorem refuseIllegal_dlyCnt (s : State) : (s.refuseIllegal).dlyCnt = s.dlyCnt := rfl
@[simp] theorem refuseIllegal_sr (s : State) : (s.refuseIllegal).sr = s.sr := rfl
@[simp] theorem refuseIllegal_rxByte (s : State) : (s.refuseIllegal).rxByte = s.rxByte := rfl
@[simp] theorem refuseIllegal_bitCnt (s : State) : (s.refuseIllegal).bitCnt = s.bitCnt := rfl
@[simp] theorem refuseIllegal_divCnt (s : State) : (s.refuseIllegal).divCnt = s.divCnt := rfl
@[simp] theorem refuseIllegal_xferActive (s : State) : (s.refuseIllegal).xferActive = s.xferActive := rfl
@[simp] theorem refuseIllegal_xferDone (s : State) : (s.refuseIllegal).xferDone = s.xferDone := rfl
@[simp] theorem refuseIllegal_toCnt (s : State) : (s.refuseIllegal).toCnt = s.toCnt := rfl
@[simp] theorem refuseIllegal_toFlag (s : State) : (s.refuseIllegal).toFlag = s.toFlag := rfl
@[simp] theorem refuseIllegal_csN (s : State) : (s.refuseIllegal).csN = s.csN := rfl
@[simp] theorem refuseIllegal_sck (s : State) : (s.refuseIllegal).sck = s.sck := rfl
@[simp] theorem refuseIllegal_mosi (s : State) : (s.refuseIllegal).mosi = s.mosi := rfl
@[simp] theorem refuseIllegal_busLock (s : State) : (s.refuseIllegal).busLock = s.busLock := rfl
@[simp] theorem refuseIllegal_rspValid (s : State) : (s.refuseIllegal).rspValid = true := rfl
@[simp] theorem refuseIllegal_rspStatus (s : State) : (s.refuseIllegal).rspStatus = Status.illegal.code := rfl
@[simp] theorem refuseIllegal_rspData (s : State) : (s.refuseIllegal).rspData = 0 := rfl
@[simp] theorem refuseIllegal_faultValid (s : State) : (s.refuseIllegal).faultValid = s.faultValid := rfl
@[simp] theorem refuseIllegal_faultCode (s : State) : (s.refuseIllegal).faultCode = s.faultCode := rfl
@[simp] theorem refuseIllegal_windows (s : State) : (s.refuseIllegal).windows = s.windows := rfl
@[simp] theorem refuseIllegal_sensors (s : State) : (s.refuseIllegal).sensors = s.sensors := rfl
@[simp] theorem refuseIllegal_env (s : State) : (s.refuseIllegal).env = s.env := rfl
@[simp] theorem refuseIllegal_cycle (s : State) : (s.refuseIllegal).cycle = s.cycle := rfl
@[simp] theorem refuseIllegal_result (s : State) : (s.refuseIllegal).result = s.result := rfl

/-! ### enterWait -/

section
variable (c : Nat) (f : Fsm)

@[simp] theorem enterWait_params (s : State) : (s.enterWait c f).params = s.params := rfl
@[simp] theorem enterWait_fsm (s : State) : (s.enterWait c f).fsm = f := rfl
@[simp] theorem enterWait_phase (s : State) : (s.enterWait c f).phase = s.phase := rfl
@[simp] theorem enterWait_curDev (s : State) : (s.enterWait c f).curDev = s.curDev := rfl
@[simp] theorem enterWait_dlyCnt (s : State) : (s.enterWait c f).dlyCnt = c - 1 := rfl
@[simp] theorem enterWait_sr (s : State) : (s.enterWait c f).sr = s.sr := rfl
@[simp] theorem enterWait_rxByte (s : State) : (s.enterWait c f).rxByte = s.rxByte := rfl
@[simp] theorem enterWait_bitCnt (s : State) : (s.enterWait c f).bitCnt = s.bitCnt := rfl
@[simp] theorem enterWait_divCnt (s : State) : (s.enterWait c f).divCnt = s.divCnt := rfl
@[simp] theorem enterWait_xferActive (s : State) : (s.enterWait c f).xferActive = s.xferActive := rfl
@[simp] theorem enterWait_xferDone (s : State) : (s.enterWait c f).xferDone = s.xferDone := rfl
@[simp] theorem enterWait_toCnt (s : State) : (s.enterWait c f).toCnt = s.toCnt := rfl
@[simp] theorem enterWait_toFlag (s : State) : (s.enterWait c f).toFlag = s.toFlag := rfl
@[simp] theorem enterWait_csN (s : State) : (s.enterWait c f).csN = s.csN := rfl
@[simp] theorem enterWait_sck (s : State) : (s.enterWait c f).sck = s.sck := rfl
@[simp] theorem enterWait_mosi (s : State) : (s.enterWait c f).mosi = s.mosi := rfl
@[simp] theorem enterWait_busLock (s : State) : (s.enterWait c f).busLock = s.busLock := rfl
@[simp] theorem enterWait_rspValid (s : State) : (s.enterWait c f).rspValid = s.rspValid := rfl
@[simp] theorem enterWait_rspStatus (s : State) : (s.enterWait c f).rspStatus = s.rspStatus := rfl
@[simp] theorem enterWait_rspData (s : State) : (s.enterWait c f).rspData = s.rspData := rfl
@[simp] theorem enterWait_faultValid (s : State) : (s.enterWait c f).faultValid = s.faultValid := rfl
@[simp] theorem enterWait_faultCode (s : State) : (s.enterWait c f).faultCode = s.faultCode := rfl
@[simp] theorem enterWait_windows (s : State) : (s.enterWait c f).windows = s.windows := rfl
@[simp] theorem enterWait_sensors (s : State) : (s.enterWait c f).sensors = s.sensors := rfl
@[simp] theorem enterWait_env (s : State) : (s.enterWait c f).env = s.env := rfl
@[simp] theorem enterWait_cycle (s : State) : (s.enterWait c f).cycle = s.cycle := rfl
@[simp] theorem enterWait_result (s : State) : (s.enterWait c f).result = s.result := rfl

end

/-! ### deselectAll -/

@[simp] theorem deselectAll_params (s : State) : (s.deselectAll).params = s.params := rfl
@[simp] theorem deselectAll_fsm (s : State) : (s.deselectAll).fsm = s.fsm := rfl
@[simp] theorem deselectAll_phase (s : State) : (s.deselectAll).phase = s.phase := rfl
@[simp] theorem deselectAll_curDev (s : State) : (s.deselectAll).curDev = s.curDev := rfl
@[simp] theorem deselectAll_dlyCnt (s : State) : (s.deselectAll).dlyCnt = s.dlyCnt := rfl
@[simp] theorem deselectAll_sr (s : State) : (s.deselectAll).sr = s.sr := rfl
@[simp] theorem deselectAll_rxByte (s : State) : (s.deselectAll).rxByte = s.rxByte := rfl
@[simp] theorem deselectAll_bitCnt (s : State) : (s.deselectAll).bitCnt = s.bitCnt := rfl
@[simp] theorem deselectAll_divCnt (s : State) : (s.deselectAll).divCnt = s.divCnt := rfl
@[simp] theorem deselectAll_xferActive (s : State) : (s.deselectAll).xferActive = s.xferActive := rfl
@[simp] theorem deselectAll_xferDone (s : State) : (s.deselectAll).xferDone = s.xferDone := rfl
@[simp] theorem deselectAll_toCnt (s : State) : (s.deselectAll).toCnt = s.toCnt := rfl
@[simp] theorem deselectAll_toFlag (s : State) : (s.deselectAll).toFlag = s.toFlag := rfl
@[simp] theorem deselectAll_csN (s : State) : (s.deselectAll).csN = allOnes s.params := rfl
@[simp] theorem deselectAll_sck (s : State) : (s.deselectAll).sck = s.sck := rfl
@[simp] theorem deselectAll_mosi (s : State) : (s.deselectAll).mosi = s.mosi := rfl
@[simp] theorem deselectAll_busLock (s : State) : (s.deselectAll).busLock = s.busLock := rfl
@[simp] theorem deselectAll_rspValid (s : State) : (s.deselectAll).rspValid = s.rspValid := rfl
@[simp] theorem deselectAll_rspStatus (s : State) : (s.deselectAll).rspStatus = s.rspStatus := rfl
@[simp] theorem deselectAll_rspData (s : State) : (s.deselectAll).rspData = s.rspData := rfl
@[simp] theorem deselectAll_faultValid (s : State) : (s.deselectAll).faultValid = s.faultValid := rfl
@[simp] theorem deselectAll_faultCode (s : State) : (s.deselectAll).faultCode = s.faultCode := rfl
@[simp] theorem deselectAll_windows (s : State) : (s.deselectAll).windows = s.windows := rfl
@[simp] theorem deselectAll_sensors (s : State) : (s.deselectAll).sensors = s.sensors := rfl
@[simp] theorem deselectAll_env (s : State) : (s.deselectAll).env = s.env := rfl
@[simp] theorem deselectAll_cycle (s : State) : (s.deselectAll).cycle = s.cycle := rfl
@[simp] theorem deselectAll_result (s : State) : (s.deselectAll).result = s.result := rfl

/-! ### startByte -/

@[simp] theorem startByte_params (s : State) : (s.startByte).params = s.params := rfl
@[simp] theorem startByte_fsm (s : State) : (s.startByte).fsm = s.fsm := rfl
@[simp] theorem startByte_phase (s : State) : (s.startByte).phase = s.phase := rfl
@[simp] theorem startByte_curDev (s : State) : (s.startByte).curDev = s.curDev := rfl
@[simp] theorem startByte_dlyCnt (s : State) : (s.startByte).dlyCnt = s.dlyCnt := rfl
@[simp] theorem startByte_sr (s : State) : (s.startByte).sr = s.sr := rfl
@[simp] theorem startByte_rxByte (s : State) : (s.startByte).rxByte = s.rxByte := rfl
@[simp] theorem startByte_bitCnt (s : State) : (s.startByte).bitCnt = 0 := rfl
@[simp] theorem startByte_divCnt (s : State) : (s.startByte).divCnt = 0 := rfl
@[simp] theorem startByte_xferActive (s : State) : (s.startByte).xferActive = true := rfl
@[simp] theorem startByte_xferDone (s : State) : (s.startByte).xferDone = s.xferDone := rfl
@[simp] theorem startByte_toCnt (s : State) : (s.startByte).toCnt = s.toCnt := rfl
@[simp] theorem startByte_toFlag (s : State) : (s.startByte).toFlag = s.toFlag := rfl
@[simp] theorem startByte_csN (s : State) : (s.startByte).csN = s.csN := rfl
@[simp] theorem startByte_sck (s : State) : (s.startByte).sck = s.sck := rfl
@[simp] theorem startByte_mosi (s : State) : (s.startByte).mosi = s.mosi := rfl
@[simp] theorem startByte_busLock (s : State) : (s.startByte).busLock = s.busLock := rfl
@[simp] theorem startByte_rspValid (s : State) : (s.startByte).rspValid = s.rspValid := rfl
@[simp] theorem startByte_rspStatus (s : State) : (s.startByte).rspStatus = s.rspStatus := rfl
@[simp] theorem startByte_rspData (s : State) : (s.startByte).rspData = s.rspData := rfl
@[simp] theorem startByte_faultValid (s : State) : (s.startByte).faultValid = s.faultValid := rfl
@[simp] theorem startByte_faultCode (s : State) : (s.startByte).faultCode = s.faultCode := rfl
@[simp] theorem startByte_windows (s : State) : (s.startByte).windows = s.windows := rfl
@[simp] theorem startByte_sensors (s : State) : (s.startByte).sensors = s.sensors := rfl
@[simp] theorem startByte_env (s : State) : (s.startByte).env = s.env := rfl
@[simp] theorem startByte_cycle (s : State) : (s.startByte).cycle = s.cycle := rfl
@[simp] theorem startByte_result (s : State) : (s.startByte).result = s.result := rfl

/-! ### selectLine -/

section
variable (dev : DevIdx) (active : Bool)

@[simp] theorem selectLine_params (s : State) : (s.selectLine dev active).params = s.params := rfl
@[simp] theorem selectLine_fsm (s : State) : (s.selectLine dev active).fsm = s.fsm := rfl
@[simp] theorem selectLine_phase (s : State) : (s.selectLine dev active).phase = s.phase := rfl
@[simp] theorem selectLine_curDev (s : State) : (s.selectLine dev active).curDev = s.curDev := rfl
@[simp] theorem selectLine_dlyCnt (s : State) : (s.selectLine dev active).dlyCnt = s.dlyCnt := rfl
@[simp] theorem selectLine_sr (s : State) : (s.selectLine dev active).sr = s.sr := rfl
@[simp] theorem selectLine_rxByte (s : State) : (s.selectLine dev active).rxByte = s.rxByte := rfl
@[simp] theorem selectLine_bitCnt (s : State) : (s.selectLine dev active).bitCnt = s.bitCnt := rfl
@[simp] theorem selectLine_divCnt (s : State) : (s.selectLine dev active).divCnt = s.divCnt := rfl
@[simp] theorem selectLine_xferActive (s : State) : (s.selectLine dev active).xferActive = s.xferActive := rfl
@[simp] theorem selectLine_xferDone (s : State) : (s.selectLine dev active).xferDone = s.xferDone := rfl
@[simp] theorem selectLine_toCnt (s : State) : (s.selectLine dev active).toCnt = s.toCnt := rfl
@[simp] theorem selectLine_toFlag (s : State) : (s.selectLine dev active).toFlag = s.toFlag := rfl
@[simp] theorem selectLine_csN (s : State) : (s.selectLine dev active).csN = driveLine s.params dev active s.csN := rfl
@[simp] theorem selectLine_sck (s : State) : (s.selectLine dev active).sck = s.sck := rfl
@[simp] theorem selectLine_mosi (s : State) : (s.selectLine dev active).mosi = s.mosi := rfl
@[simp] theorem selectLine_busLock (s : State) : (s.selectLine dev active).busLock = s.busLock := rfl
@[simp] theorem selectLine_rspValid (s : State) : (s.selectLine dev active).rspValid = s.rspValid := rfl
@[simp] theorem selectLine_rspStatus (s : State) : (s.selectLine dev active).rspStatus = s.rspStatus := rfl
@[simp] theorem selectLine_rspData (s : State) : (s.selectLine dev active).rspData = s.rspData := rfl
@[simp] theorem selectLine_faultValid (s : State) : (s.selectLine dev active).faultValid = s.faultValid := rfl
@[simp] theorem selectLine_faultCode (s : State) : (s.selectLine dev active).faultCode = s.faultCode := rfl
@[simp] theorem selectLine_windows (s : State) : (s.selectLine dev active).windows = s.windows := rfl
@[simp] theorem selectLine_sensors (s : State) : (s.selectLine dev active).sensors = s.sensors := rfl
@[simp] theorem selectLine_env (s : State) : (s.selectLine dev active).env = s.env := rfl
@[simp] theorem selectLine_cycle (s : State) : (s.selectLine dev active).cycle = s.cycle := rfl
@[simp] theorem selectLine_result (s : State) : (s.selectLine dev active).result = s.result := rfl

end

/-! ### initWindows -/

@[simp] theorem initWindows_params (s : State) : (s.initWindows).params = s.params := rfl
@[simp] theorem initWindows_fsm (s : State) : (s.initWindows).fsm = s.fsm := rfl
@[simp] theorem initWindows_phase (s : State) : (s.initWindows).phase = s.phase := rfl
@[simp] theorem initWindows_curDev (s : State) : (s.initWindows).curDev = s.curDev := rfl
@[simp] theorem initWindows_dlyCnt (s : State) : (s.initWindows).dlyCnt = s.dlyCnt := rfl
@[simp] theorem initWindows_sr (s : State) : (s.initWindows).sr = s.sr := rfl
@[simp] theorem initWindows_rxByte (s : State) : (s.initWindows).rxByte = s.rxByte := rfl
@[simp] theorem initWindows_bitCnt (s : State) : (s.initWindows).bitCnt = s.bitCnt := rfl
@[simp] theorem initWindows_divCnt (s : State) : (s.initWindows).divCnt = s.divCnt := rfl
@[simp] theorem initWindows_xferActive (s : State) : (s.initWindows).xferActive = s.xferActive := rfl
@[simp] theorem initWindows_xferDone (s : State) : (s.initWindows).xferDone = s.xferDone := rfl
@[simp] theorem initWindows_toCnt (s : State) : (s.initWindows).toCnt = s.toCnt := rfl
@[simp] theorem initWindows_toFlag (s : State) : (s.initWindows).toFlag = s.toFlag := rfl
@[simp] theorem initWindows_csN (s : State) : (s.initWindows).csN = s.csN := rfl
@[simp] theorem initWindows_sck (s : State) : (s.initWindows).sck = s.sck := rfl
@[simp] theorem initWindows_mosi (s : State) : (s.initWindows).mosi = s.mosi := rfl
@[simp] theorem initWindows_busLock (s : State) : (s.initWindows).busLock = s.busLock := rfl
@[simp] theorem initWindows_rspValid (s : State) : (s.initWindows).rspValid = s.rspValid := rfl
@[simp] theorem initWindows_rspStatus (s : State) : (s.initWindows).rspStatus = s.rspStatus := rfl
@[simp] theorem initWindows_rspData (s : State) : (s.initWindows).rspData = s.rspData := rfl
@[simp] theorem initWindows_faultValid (s : State) : (s.initWindows).faultValid = s.faultValid := rfl
@[simp] theorem initWindows_faultCode (s : State) : (s.initWindows).faultCode = s.faultCode := rfl
@[simp] theorem initWindows_windows (s : State) : (s.initWindows).windows = if s.params.avgEnabled then List.replicate s.params.deviceCount.toNat (initWindow s.params) else s.windows := rfl
@[simp] theorem initWindows_sensors (s : State) : (s.initWindows).sensors = s.sensors := rfl
@[simp] theorem initWindows_env (s : State) : (s.initWindows).env = s.env := rfl
@[simp] theorem initWindows_cycle (s : State) : (s.initWindows).cycle = s.cycle := rfl
@[simp] theorem initWindows_result (s : State) : (s.initWindows).result = s.result := rfl

/-! ### startRead -/

section
variable (dev : DevIdx)

@[simp] theorem startRead_params (s : State) : (s.startRead dev).params = s.params := rfl
@[simp] theorem startRead_fsm (s : State) : (s.startRead dev).fsm = .selected := rfl
@[simp] theorem startRead_phase (s : State) : (s.startRead dev).phase = s.phase := rfl
@[simp] theorem startRead_curDev (s : State) : (s.startRead dev).curDev = dev := rfl
@[simp] theorem startRead_dlyCnt (s : State) : (s.startRead dev).dlyCnt = s.params.cLatch - 1 := rfl
@[simp] theorem startRead_sr (s : State) : (s.startRead dev).sr = 0 := rfl
@[simp] theorem startRead_rxByte (s : State) : (s.startRead dev).rxByte = 0 := rfl
@[simp] theorem startRead_bitCnt (s : State) : (s.startRead dev).bitCnt = s.bitCnt := rfl
@[simp] theorem startRead_divCnt (s : State) : (s.startRead dev).divCnt = s.divCnt := rfl
@[simp] theorem startRead_xferActive (s : State) : (s.startRead dev).xferActive = s.xferActive := rfl
@[simp] theorem startRead_xferDone (s : State) : (s.startRead dev).xferDone = false := rfl
@[simp] theorem startRead_toCnt (s : State) : (s.startRead dev).toCnt = s.toCnt := rfl
@[simp] theorem startRead_toFlag (s : State) : (s.startRead dev).toFlag = s.toFlag := rfl
@[simp] theorem startRead_csN (s : State) : (s.startRead dev).csN = driveLine s.params dev true s.csN := rfl
@[simp] theorem startRead_sck (s : State) : (s.startRead dev).sck = s.sck := rfl
@[simp] theorem startRead_mosi (s : State) : (s.startRead dev).mosi = s.mosi := rfl
@[simp] theorem startRead_busLock (s : State) : (s.startRead dev).busLock = true := rfl
@[simp] theorem startRead_rspValid (s : State) : (s.startRead dev).rspValid = s.rspValid := rfl
@[simp] theorem startRead_rspStatus (s : State) : (s.startRead dev).rspStatus = s.rspStatus := rfl
@[simp] theorem startRead_rspData (s : State) : (s.startRead dev).rspData = s.rspData := rfl
@[simp] theorem startRead_faultValid (s : State) : (s.startRead dev).faultValid = s.faultValid := rfl
@[simp] theorem startRead_faultCode (s : State) : (s.startRead dev).faultCode = s.faultCode := rfl
@[simp] theorem startRead_windows (s : State) : (s.startRead dev).windows = s.windows := rfl
@[simp] theorem startRead_sensors (s : State) : (s.startRead dev).sensors = s.sensors := rfl
@[simp] theorem startRead_env (s : State) : (s.startRead dev).env = s.env := rfl
@[simp] theorem startRead_cycle (s : State) : (s.startRead dev).cycle = s.cycle := rfl
@[simp] theorem startRead_result (s : State) : (s.startRead dev).result = s.result := rfl

end

/-! ### endTransaction -/

@[simp] theorem endTransaction_params (s : State) : (s.endTransaction).params = s.params := rfl
@[simp] theorem endTransaction_fsm (s : State) : (s.endTransaction).fsm = .deselected := rfl
@[simp] theorem endTransaction_phase (s : State) : (s.endTransaction).phase = s.phase := rfl
@[simp] theorem endTransaction_curDev (s : State) : (s.endTransaction).curDev = s.curDev := rfl
@[simp] theorem endTransaction_dlyCnt (s : State) : (s.endTransaction).dlyCnt = s.dlyCnt := rfl
@[simp] theorem endTransaction_sr (s : State) : (s.endTransaction).sr = s.sr := rfl
@[simp] theorem endTransaction_rxByte (s : State) : (s.endTransaction).rxByte = s.rxByte := rfl
@[simp] theorem endTransaction_bitCnt (s : State) : (s.endTransaction).bitCnt = s.bitCnt := rfl
@[simp] theorem endTransaction_divCnt (s : State) : (s.endTransaction).divCnt = s.divCnt := rfl
@[simp] theorem endTransaction_xferActive (s : State) : (s.endTransaction).xferActive = s.xferActive := rfl
@[simp] theorem endTransaction_xferDone (s : State) : (s.endTransaction).xferDone = s.xferDone := rfl
@[simp] theorem endTransaction_toCnt (s : State) : (s.endTransaction).toCnt = s.toCnt := rfl
@[simp] theorem endTransaction_toFlag (s : State) : (s.endTransaction).toFlag = s.toFlag := rfl
@[simp] theorem endTransaction_csN (s : State) : (s.endTransaction).csN = driveLine s.params s.curDev false s.csN := rfl
@[simp] theorem endTransaction_sck (s : State) : (s.endTransaction).sck = s.sck := rfl
@[simp] theorem endTransaction_mosi (s : State) : (s.endTransaction).mosi = s.mosi := rfl
@[simp] theorem endTransaction_busLock (s : State) : (s.endTransaction).busLock = false := rfl
@[simp] theorem endTransaction_rspValid (s : State) : (s.endTransaction).rspValid = s.rspValid := rfl
@[simp] theorem endTransaction_rspStatus (s : State) : (s.endTransaction).rspStatus = s.rspStatus := rfl
@[simp] theorem endTransaction_rspData (s : State) : (s.endTransaction).rspData = s.rspData := rfl
@[simp] theorem endTransaction_faultValid (s : State) : (s.endTransaction).faultValid = s.faultValid := rfl
@[simp] theorem endTransaction_faultCode (s : State) : (s.endTransaction).faultCode = s.faultCode := rfl
@[simp] theorem endTransaction_windows (s : State) : (s.endTransaction).windows = s.windows := rfl
@[simp] theorem endTransaction_sensors (s : State) : (s.endTransaction).sensors = s.sensors := rfl
@[simp] theorem endTransaction_env (s : State) : (s.endTransaction).env = s.env := rfl
@[simp] theorem endTransaction_cycle (s : State) : (s.endTransaction).cycle = s.cycle := rfl
@[simp] theorem endTransaction_result (s : State) : (s.endTransaction).result = s.result := rfl

/-! ### resetEdge -/

@[simp] theorem resetEdge_params (s : State) : (s.resetEdge).params = s.params := rfl
@[simp] theorem resetEdge_fsm (s : State) : (s.resetEdge).fsm = .idle := rfl
@[simp] theorem resetEdge_phase (s : State) : (s.resetEdge).phase = .unconfigured := rfl
@[simp] theorem resetEdge_curDev (s : State) : (s.resetEdge).curDev = 0 := rfl
@[simp] theorem resetEdge_dlyCnt (s : State) : (s.resetEdge).dlyCnt = 0 := rfl
@[simp] theorem resetEdge_sr (s : State) : (s.resetEdge).sr = 0 := rfl
@[simp] theorem resetEdge_rxByte (s : State) : (s.resetEdge).rxByte = 0 := rfl
@[simp] theorem resetEdge_bitCnt (s : State) : (s.resetEdge).bitCnt = 0 := rfl
@[simp] theorem resetEdge_divCnt (s : State) : (s.resetEdge).divCnt = 0 := rfl
@[simp] theorem resetEdge_xferActive (s : State) : (s.resetEdge).xferActive = false := rfl
@[simp] theorem resetEdge_xferDone (s : State) : (s.resetEdge).xferDone = false := rfl
@[simp] theorem resetEdge_toCnt (s : State) : (s.resetEdge).toCnt = 0 := rfl
@[simp] theorem resetEdge_toFlag (s : State) : (s.resetEdge).toFlag = false := rfl
@[simp] theorem resetEdge_csN (s : State) : (s.resetEdge).csN = allOnes s.params := rfl
@[simp] theorem resetEdge_sck (s : State) : (s.resetEdge).sck = false := rfl
@[simp] theorem resetEdge_mosi (s : State) : (s.resetEdge).mosi = false := rfl
@[simp] theorem resetEdge_busLock (s : State) : (s.resetEdge).busLock = false := rfl
@[simp] theorem resetEdge_rspValid (s : State) : (s.resetEdge).rspValid = false := rfl
@[simp] theorem resetEdge_rspStatus (s : State) : (s.resetEdge).rspStatus = 0 := rfl
@[simp] theorem resetEdge_rspData (s : State) : (s.resetEdge).rspData = 0 := rfl
@[simp] theorem resetEdge_faultValid (s : State) : (s.resetEdge).faultValid = false := rfl
@[simp] theorem resetEdge_faultCode (s : State) : (s.resetEdge).faultCode = 0 := rfl
@[simp] theorem resetEdge_windows (s : State) : (s.resetEdge).windows = s.windows := rfl
@[simp] theorem resetEdge_sensors (s : State) : (s.resetEdge).sensors = s.sensors := rfl
@[simp] theorem resetEdge_env (s : State) : (s.resetEdge).env = s.env := rfl
@[simp] theorem resetEdge_cycle (s : State) : (s.resetEdge).cycle = s.cycle := rfl
@[simp] theorem resetEdge_result (s : State) : (s.resetEdge).result = s.result := rfl

/-! ### endCycle -/

section
variable (old : State)

@[simp] theorem endCycle_params (s : State) : (old.endCycle s).params = s.params := rfl
@[simp] theorem endCycle_fsm (s : State) : (old.endCycle s).fsm = s.fsm := rfl
@[simp] theorem endCycle_phase (s : State) : (old.endCycle s).phase = s.phase := rfl
@[simp] theorem endCycle_curDev (s : State) : (old.endCycle s).curDev = s.curDev := rfl
@[simp] theorem endCycle_dlyCnt (s : State) : (old.endCycle s).dlyCnt = s.dlyCnt := rfl
@[simp] theorem endCycle_sr (s : State) : (old.endCycle s).sr = s.sr := rfl
@[simp] theorem endCycle_rxByte (s : State) : (old.endCycle s).rxByte = s.rxByte := rfl
@[simp] theorem endCycle_bitCnt (s : State) : (old.endCycle s).bitCnt = s.bitCnt := rfl
@[simp] theorem endCycle_divCnt (s : State) : (old.endCycle s).divCnt = s.divCnt := rfl
@[simp] theorem endCycle_xferActive (s : State) : (old.endCycle s).xferActive = s.xferActive := rfl
@[simp] theorem endCycle_xferDone (s : State) : (old.endCycle s).xferDone = s.xferDone := rfl
@[simp] theorem endCycle_toCnt (s : State) : (old.endCycle s).toCnt = s.toCnt := rfl
@[simp] theorem endCycle_toFlag (s : State) : (old.endCycle s).toFlag = s.toFlag := rfl
@[simp] theorem endCycle_csN (s : State) : (old.endCycle s).csN = s.csN := rfl
@[simp] theorem endCycle_sck (s : State) : (old.endCycle s).sck = s.sck := rfl
@[simp] theorem endCycle_mosi (s : State) : (old.endCycle s).mosi = s.mosi := rfl
@[simp] theorem endCycle_busLock (s : State) : (old.endCycle s).busLock = s.busLock := rfl
@[simp] theorem endCycle_rspValid (s : State) : (old.endCycle s).rspValid = s.rspValid := rfl
@[simp] theorem endCycle_rspStatus (s : State) : (old.endCycle s).rspStatus = s.rspStatus := rfl
@[simp] theorem endCycle_rspData (s : State) : (old.endCycle s).rspData = s.rspData := rfl
@[simp] theorem endCycle_faultValid (s : State) : (old.endCycle s).faultValid = s.faultValid := rfl
@[simp] theorem endCycle_faultCode (s : State) : (old.endCycle s).faultCode = s.faultCode := rfl
@[simp] theorem endCycle_windows (s : State) : (old.endCycle s).windows = s.windows := rfl
@[simp] theorem endCycle_sensors (s : State) : (old.endCycle s).sensors = tickSensors old.csN s.csN 0 s.sensors := rfl
@[simp] theorem endCycle_env (s : State) : (old.endCycle s).env = s.env.tail := rfl
@[simp] theorem endCycle_cycle (s : State) : (old.endCycle s).cycle = s.cycle + 1 := rfl
@[simp] theorem endCycle_result (s : State) : (old.endCycle s).result = .nothing := rfl

end

/-! ### byteEngine (the six registers of R108 apart) -/

section
variable (busReady miso : Bool)

@[simp] theorem byteEngine_params (s : State) : (s.byteEngine busReady miso).params = s.params := by
  unfold State.byteEngine State.bitEnd State.sample; repeat' split
  all_goals rfl
@[simp] theorem byteEngine_fsm (s : State) : (s.byteEngine busReady miso).fsm = s.fsm := by
  unfold State.byteEngine State.bitEnd State.sample; repeat' split
  all_goals rfl
@[simp] theorem byteEngine_phase (s : State) : (s.byteEngine busReady miso).phase = s.phase := by
  unfold State.byteEngine State.bitEnd State.sample; repeat' split
  all_goals rfl
@[simp] theorem byteEngine_curDev (s : State) : (s.byteEngine busReady miso).curDev = s.curDev := by
  unfold State.byteEngine State.bitEnd State.sample; repeat' split
  all_goals rfl
@[simp] theorem byteEngine_dlyCnt (s : State) : (s.byteEngine busReady miso).dlyCnt = s.dlyCnt := by
  unfold State.byteEngine State.bitEnd State.sample; repeat' split
  all_goals rfl
@[simp] theorem byteEngine_sr (s : State) : (s.byteEngine busReady miso).sr = s.sr := by
  unfold State.byteEngine State.bitEnd State.sample; repeat' split
  all_goals rfl
@[simp] theorem byteEngine_toCnt (s : State) : (s.byteEngine busReady miso).toCnt = s.toCnt := by
  unfold State.byteEngine State.bitEnd State.sample; repeat' split
  all_goals rfl
@[simp] theorem byteEngine_toFlag (s : State) : (s.byteEngine busReady miso).toFlag = s.toFlag := by
  unfold State.byteEngine State.bitEnd State.sample; repeat' split
  all_goals rfl
@[simp] theorem byteEngine_csN (s : State) : (s.byteEngine busReady miso).csN = s.csN := by
  unfold State.byteEngine State.bitEnd State.sample; repeat' split
  all_goals rfl
@[simp] theorem byteEngine_mosi (s : State) : (s.byteEngine busReady miso).mosi = s.mosi := by
  unfold State.byteEngine State.bitEnd State.sample; repeat' split
  all_goals rfl
@[simp] theorem byteEngine_busLock (s : State) : (s.byteEngine busReady miso).busLock = s.busLock := by
  unfold State.byteEngine State.bitEnd State.sample; repeat' split
  all_goals rfl
@[simp] theorem byteEngine_rspValid (s : State) : (s.byteEngine busReady miso).rspValid = s.rspValid := by
  unfold State.byteEngine State.bitEnd State.sample; repeat' split
  all_goals rfl
@[simp] theorem byteEngine_rspStatus (s : State) : (s.byteEngine busReady miso).rspStatus = s.rspStatus := by
  unfold State.byteEngine State.bitEnd State.sample; repeat' split
  all_goals rfl
@[simp] theorem byteEngine_rspData (s : State) : (s.byteEngine busReady miso).rspData = s.rspData := by
  unfold State.byteEngine State.bitEnd State.sample; repeat' split
  all_goals rfl
@[simp] theorem byteEngine_faultValid (s : State) : (s.byteEngine busReady miso).faultValid = s.faultValid := by
  unfold State.byteEngine State.bitEnd State.sample; repeat' split
  all_goals rfl
@[simp] theorem byteEngine_faultCode (s : State) : (s.byteEngine busReady miso).faultCode = s.faultCode := by
  unfold State.byteEngine State.bitEnd State.sample; repeat' split
  all_goals rfl
@[simp] theorem byteEngine_windows (s : State) : (s.byteEngine busReady miso).windows = s.windows := by
  unfold State.byteEngine State.bitEnd State.sample; repeat' split
  all_goals rfl
@[simp] theorem byteEngine_sensors (s : State) : (s.byteEngine busReady miso).sensors = s.sensors := by
  unfold State.byteEngine State.bitEnd State.sample; repeat' split
  all_goals rfl
@[simp] theorem byteEngine_env (s : State) : (s.byteEngine busReady miso).env = s.env := by
  unfold State.byteEngine State.bitEnd State.sample; repeat' split
  all_goals rfl
@[simp] theorem byteEngine_cycle (s : State) : (s.byteEngine busReady miso).cycle = s.cycle := by
  unfold State.byteEngine State.bitEnd State.sample; repeat' split
  all_goals rfl
@[simp] theorem byteEngine_result (s : State) : (s.byteEngine busReady miso).result = s.result := by
  unfold State.byteEngine State.bitEnd State.sample; repeat' split
  all_goals rfl

end

end Sys2Proof.Machine
end

