-- ==== Sys2Proof/Laws/Ops.lean ====
section
/-! SUPPORT. What each shared operation can do, said once: provers cite these and do not unfold the operation. -/

namespace Sys2Proof.Machine

/-! ## Outcomes in sequence -/

@[simp] theorem andThen_next {α β : Type} (a : α) (f : α → Host.Outcome β Fault Refusal) :
    andThen (.next a) f = f a := rfl
@[simp] theorem andThen_fault {α β : Type} (r : Fault) (f : α → Host.Outcome β Fault Refusal) :
    andThen (.fault r) f = .fault r := rfl
@[simp] theorem andThen_refused {α β : Type} (r : Refusal) (f : α → Host.Outcome β Fault Refusal) :
    andThen (.refused r) f = .refused r := rfl

theorem andThen_eq_next {α β : Type} {o : Host.Outcome α Fault Refusal} {f : α → Host.Outcome β Fault Refusal}
    {b : β} : andThen o f = .next b ↔ ∃ a, o = .next a ∧ f a = .next b := by
  cases o <;> simp

/-! ## Wait states -/

theorem wait_over {leave : State → State} {s : State} (h : s.dlyCnt = 0) : s.wait leave = leave s := by
  simp [State.wait, h]

theorem wait_on {leave : State → State} {s : State} (h : s.dlyCnt ≠ 0) :
    s.wait leave = { s with dlyCnt := s.dlyCnt - 1 } := by simp [State.wait, h]

theorem Params.delays_le (p : Params) :
    p.cSettle - 1 ≤ p.maxDelay ∧ p.cStart - 1 ≤ p.maxDelay ∧ p.cConv - 1 ≤ p.maxDelay ∧
    p.cLatch - 1 ≤ p.maxDelay ∧ p.cSetup - 1 ≤ p.maxDelay := by
  unfold Params.maxDelay; omega

/-- What `Params.wf` says, in arithmetic. -/
theorem Params.of_wf {p : Params} (h : p.wf = true) :
    1 ≤ p.sckDiv ∧ 1 ≤ p.cSettle ∧ 1 ≤ p.cStart ∧ 1 ≤ p.cConv ∧ 1 ≤ p.cLatch ∧ 1 ≤ p.cSetup ∧
    (∀ t, p.busTimeout = some t → 16 * p.sckDiv < t) ∧
    0x1FFF < p.busTimeoutCode.toNat ∧ p.busTimeoutCode ≠ 0xFFFF#16 := by
  simp only [Params.wf, Bool.and_eq_true, decide_eq_true_eq, bne_iff_ne] at h
  obtain ⟨⟨⟨⟨⟨⟨⟨⟨h1, h2⟩, h3⟩, h4⟩, h5⟩, h6⟩, h7⟩, h8⟩, h9⟩ := h
  refine ⟨h1, h2, h3, h4, h5, h6, fun t ht => ?_, h8, h9⟩
  simpa [ht] using h7

/-- n fits the width the spec gives a counter that holds 0 to n. -/
theorem lt_two_pow_leastWidth (n : Nat) : n < 2 ^ leastWidth n := by
  unfold leastWidth
  split
  · omega
  · exact Nat.lt_log2_self

/-! ## Select lines -/

theorem DeviceCount.toNat_pos (n : DeviceCount) : 0 < n.toNat := by cases n <;> decide

theorem eff_lt (p : Params) (d : DevIdx) : eff p d < p.deviceCount.toNat := by
  unfold eff; split
  · assumption
  · exact DeviceCount.toNat_pos _

theorem lineOf_physical {p : Params} {d : DevIdx} (h : d.toNat < p.deviceCount.toNat) :
    lineOf p d = some d.toNat := by simp [lineOf, h]

theorem replicate_set_self {α : Type} (n i : Nat) (a : α) : (List.replicate n a).set i a = List.replicate n a := by
  apply List.ext_getElem <;> simp

/-- Asserting a device's line among lines that are all deasserted. -/
@[simp] theorem driveLine_assert (p : Params) (dev : DevIdx) :
    driveLine p dev true (allOnes p) = linesWith p dev := by
  unfold driveLine linesWith; cases lineOf p dev <;> rfl

/-- Deasserting a line that is not asserted changes nothing. -/
@[simp] theorem driveLine_rest (p : Params) (dev : DevIdx) : driveLine p dev false (allOnes p) = allOnes p := by
  unfold driveLine
  cases lineOf p dev with
  | none => rfl
  | some l => exact replicate_set_self _ _ _

/-- Deasserting the one line that is asserted leaves every line deasserted. -/
@[simp] theorem driveLine_release (p : Params) (dev : DevIdx) :
    driveLine p dev false (linesWith p dev) = allOnes p := by
  unfold driveLine linesWith
  cases lineOf p dev with
  | none => rfl
  | some l => simp only [List.set_set, Bool.not_false]; exact replicate_set_self _ _ _

@[simp] theorem driveLine_length (p : Params) (dev : DevIdx) (a : Bool) (xs : List Bool) :
    (driveLine p dev a xs).length = xs.length := by
  unfold driveLine; cases lineOf p dev <;> simp

@[simp] theorem allOnes_length (p : Params) : (allOnes p).length = p.deviceCount.toNat := by simp [allOnes]

@[simp] theorem linesWith_length (p : Params) (dev : DevIdx) : (linesWith p dev).length = p.deviceCount.toNat := by
  unfold linesWith; cases lineOf p dev <;> simp

/-! ## The sensors' record -/

@[simp] theorem tickSensors_length (before after : List Bool) (d : Nat) (xs : List Sensor) :
    (tickSensors before after d xs).length = xs.length := by
  induction xs generalizing d with
  | nil => rfl
  | cons x xs ih => simp [tickSensors, ih]

theorem tickSensors_get (before after : List Bool) (d k : Nat) (xs : List Sensor) :
    (tickSensors before after d xs)[k]? =
      (xs[k]?).map fun x => x.tick (before.getD (d + k) true) (after.getD (d + k) true) := by
  induction xs generalizing d k with
  | nil => simp [tickSensors]
  | cons x xs ih =>
    cases k with
    | zero => simp [tickSensors]
    | succ k => simp only [tickSensors, List.getElem?_cons_succ, ih, Nat.add_assoc, Nat.add_comm 1 k]

/-! ## The byte engine -/

/-- Without a byte or without `bus_ready` the engine holds (R108). -/
theorem byteEngine_holds {s : State} {r m : Bool} (h : s.xferActive = false ∨ r = false) :
    s.byteEngine r m = s := by
  unfold State.byteEngine
  rcases h with h | h <;> simp [h]

/-- Inside a half-period the engine only counts (R105). -/
theorem byteEngine_counts {s : State} {m : Bool} (ha : s.xferActive = true) (hd : s.divCnt ≠ s.params.sckDiv - 1) :
    s.byteEngine true m = { s with divCnt := s.divCnt + 1 } := by simp [State.byteEngine, ha, hd]

/-- The rising edge samples `miso` (R106). -/
theorem byteEngine_rises {s : State} {m : Bool} (ha : s.xferActive = true) (hd : s.divCnt = s.params.sckDiv - 1)
    (hk : s.sck = false) :
    s.byteEngine true m =
      { s with divCnt := 0, sck := true, rxByte := s.rxByte.extractLsb' 0 7 ++ BitVec.ofBool m } := by
  simp [State.byteEngine, State.sample, ha, hd, hk]

/-- A falling edge before the eighth counts a bit (R107). -/
theorem byteEngine_falls {s : State} {m : Bool} (ha : s.xferActive = true) (hd : s.divCnt = s.params.sckDiv - 1)
    (hk : s.sck = true) (hb : s.bitCnt ≠ 7) :
    s.byteEngine true m = { s with divCnt := 0, sck := false, bitCnt := s.bitCnt + 1 } := by
  simp [State.byteEngine, State.bitEnd, ha, hd, hk, show ¬ s.bitCnt = 7#3 from hb]

/-- The eighth falling edge completes the byte (R107). -/
theorem byteEngine_completes {s : State} {m : Bool} (ha : s.xferActive = true)
    (hd : s.divCnt = s.params.sckDiv - 1) (hk : s.sck = true) (hb : s.bitCnt = 7) :
    s.byteEngine true m = { s with divCnt := 0, sck := false, xferActive := false, xferDone := true } := by
  simp [State.byteEngine, State.bitEnd, ha, hd, hk, hb]

/-! ## The time-out step (R116) -/

theorem timeoutStep_unbounded {s : State} (h : s.params.busTimeout = none) : s.timeoutStep = s := by
  simp [State.timeoutStep, h]

theorem timeoutStep_counts {s : State} {n : Nat} (h : s.params.busTimeout = some n) (hc : s.toCnt < n - 1) :
    s.timeoutStep = { s with toCnt := s.toCnt + 1 } := by simp [State.timeoutStep, h, hc]

theorem timeoutStep_aborts {s : State} {n : Nat} (h : s.params.busTimeout = some n) (hc : ¬ s.toCnt < n - 1) :
    s.timeoutStep = s.abort := by simp [State.timeoutStep, h, hc]

/-! ## The window storage -/

/-- All that AVG_UPDATE can do when it goes on (R129, R132). -/
theorem avgUpdate_cases {d : Nat} {v m : Decoded} {s t : State} (h : s.avgUpdate d v = .next (t, m)) :
    (s.params.avgEnabled = false ∧ t = s ∧ m = v) ∨
    (s.params.avgEnabled = true ∧ ∃ w old, s.windows[d]? = some w ∧ w.slots[w.head]? = some old ∧
      t = { s with windows := s.windows.set d (w.insert s.params.windowBits old v).1 } ∧
      m = (w.insert s.params.windowBits old v).2) := by
  unfold State.avgUpdate at h
  split at h
  · next ha =>
    split at h
    · cases h
    · next w hw =>
      split at h
      · cases h
      · next old ho =>
        injection h with h; injection h with h1 h2
        exact .inr ⟨ha, w, old, hw, ho, h1.symm, h2.symm⟩
  · next ha =>
    injection h with h; injection h with h1 h2
    exact .inl ⟨by simpa using ha, h1.symm, h2.symm⟩

theorem sum_set {xs : List Decoded} {i : Nat} {old : Decoded} (v : Decoded) (h : xs[i]? = some old) :
    ((xs.set i v).map BitVec.toNat).sum + old.toNat = (xs.map BitVec.toNat).sum + v.toNat := by
  induction xs generalizing i with
  | nil => simp at h
  | cons x xs ih =>
    cases i with
    | zero => simp at h; subst h; simp; omega
    | succ i =>
      simp only [List.getElem?_cons_succ] at h
      have := ih h
      simp only [List.set_cons_succ, List.map_cons, List.sum_cons]; omega

theorem sum_bounds {xs : List Decoded} (h : ∀ v ∈ xs, 10 ≤ v.toNat ∧ v.toNat ≤ 1200) :
    10 * xs.length ≤ (xs.map BitVec.toNat).sum ∧ (xs.map BitVec.toNat).sum ≤ 1200 * xs.length := by
  induction xs with
  | nil => simp
  | cons x xs ih =>
    have := h x (by simp)
    have := ih fun v hv => h v (by simp [hv])
    simp; omega

theorem initWindow_fits (p : Params) : (initWindow p).fits p := by
  refine ⟨by simp [initWindow], by simp [initWindow, Params.windowSize], ?_⟩
  simp only [initWindow, initValue, Params.sumWidth, Nat.shiftLeft_eq, pow_add]
  simp

theorem initWindow_sound (p : Params) : (initWindow p).sound := by
  refine ⟨by simp [initWindow, Nat.shiftLeft_eq, Params.windowSize, initValue, mul_comm], ?_⟩
  intro v hv
  simp [initWindow] at hv
  simp [hv.2, initValue]

/-- The sum register after an insertion is the sum of the new slots (R130). -/
theorem insert_sum {w : Window} {old v : Decoded} (hs : w.sound) (ho : w.slots[w.head]? = some old) :
    w.sum + v.toNat - old.toNat = ((w.slots.set w.head v).map BitVec.toNat).sum := by
  have h1 := sum_set v ho
  have h2 : old.toNat ≤ (w.slots.map BitVec.toNat).sum :=
    List.le_sum_of_mem (List.mem_map.2 ⟨old, List.mem_of_getElem? ho, rfl⟩)
  rw [hs.1]; omega

/-- An insertion of a valid value keeps a window's shape and soundness, and its mean lies in [10, 1200] (R129 to R131). -/
theorem insert_keeps {p : Params} {w : Window} {old v : Decoded} (hf : w.fits p) (hs : w.sound)
    (ho : w.slots[w.head]? = some old) (hv : 10 ≤ v.toNat ∧ v.toNat ≤ 1200) :
    (w.insert p.windowBits old v).1.fits p ∧ (w.insert p.windowBits old v).1.sound ∧
    10 ≤ (w.insert p.windowBits old v).2.toNat ∧ (w.insert p.windowBits old v).2.toNat ≤ 1200 := by
  have hns := insert_sum (v := v) hs ho
  obtain ⟨hl, hh, hw⟩ := hf
  have hall : ∀ x ∈ w.slots.set w.head v, 10 ≤ x.toNat ∧ x.toNat ≤ 1200 := by
    intro x hx
    rcases List.mem_or_eq_of_mem_set hx with h | h
    · exact hs.2 x h
    · subst h; exact hv
  have hb := sum_bounds hall
  rw [show (w.slots.set w.head v).length = 2 ^ p.windowBits by simp [hl, Params.windowSize]] at hb
  have hpos : 0 < 2 ^ p.windowBits := by positivity
  refine ⟨⟨by simp [Window.insert, hl], ?_, ?_⟩, ⟨hns, by simpa [Window.insert] using hall⟩, ?_⟩
  · simp only [Window.insert, Params.windowSize]; exact Nat.mod_lt _ hpos
  · simp only [Window.insert, hns, Params.sumWidth, pow_add]; omega
  · have hlo : 10 ≤ ((w.slots.set w.head v).map BitVec.toNat).sum / 2 ^ p.windowBits :=
      (Nat.le_div_iff_mul_le hpos).2 hb.1
    have hhi : ((w.slots.set w.head v).map BitVec.toNat).sum / 2 ^ p.windowBits ≤ 1200 :=
      Nat.div_le_of_le_mul (by rw [mul_comm]; exact hb.2)
    simp only [Window.insert, hns, BitVec.toNat_ofNat, Nat.shiftRight_eq_div_pow]
    omega

theorem partInitSlots_length (n d i : Nat) (xs : List Decoded) : (partInitSlots n d i xs).length = xs.length := by
  induction xs generalizing i with
  | nil => rfl
  | cons x xs ih => simp [partInitSlots, ih]

/-- A cycle of SETUP_INIT keeps the shape of the storage, whatever it writes (R140). -/
theorem partInitWindows_fits {p : Params} {n d : Nat} {ws : List Window} (h : ∀ w ∈ ws, w.fits p) :
    (partInitWindows p n d ws).length = ws.length ∧ ∀ w ∈ partInitWindows p n d ws, w.fits p := by
  induction ws generalizing d with
  | nil => simp [partInitWindows]
  | cons x xs ih =>
    have hx := h x (by simp)
    have hi := initWindow_fits p
    have hr := ih (d := d + 1) fun w hw => h w (by simp [hw])
    refine ⟨by simp [partInitWindows, hr.1], ?_⟩
    intro w hw
    simp only [partInitWindows, List.mem_cons] at hw
    rcases hw with rfl | hw
    · refine ⟨by simp [partInitSlots_length, hx.1], ?_, ?_⟩ <;> simp only
      · split
        · simp [Params.windowSize]
        · exact hx.2.1
      · split
        · exact hi.2.2
        · exact hx.2.2
    · exact hr.2 w hw

/-! ## The classifier -/

/-- A value the classifier calls valid lies in [10, 1200] (R122, R123). -/
theorem classify_valid_range {raw : Word} {x : Decoded} (h : classify raw = .valid x) :
    10 ≤ x.toNat ∧ x.toNat ≤ 1200 := by
  unfold classify at h
  split at h
  · cases h
  · split at h
    · cases h
    · next hr =>
      injection h with h; subst h
      simpa [rangeDetect, rangeLo, rangeHi, BitVec.ult] using hr

/-- A value the classifier calls out of range lies outside [10, 1200] (R122). -/
theorem classify_range_outside {raw : Word} {x : Decoded} (h : classify raw = .rangeFault x) :
    x.toNat < 10 ∨ 1200 < x.toNat := by
  unfold classify at h
  split at h
  · cases h
  · split at h
    · next hr =>
      injection h with h; subst h
      simpa [rangeDetect, rangeLo, rangeHi, BitVec.ult] using hr
    · cases h

/-! ## The DESELECTED cycle -/

/-- All that DESELECTED can do when it goes on (R142). -/
theorem deselected_cases {s t : State} (h : s.deselected = .next t) :
    (s.toFlag = true ∧
      t = { s.takeFault s.params.busTimeoutCode s.params.busTimeoutCode with toFlag := false, fsm := .idle }) ∨
    (s.toFlag = false ∧ classify s.sr = .lineFault ∧
      t = { s.takeFault lineCode lineCode with toFlag := false, fsm := .idle }) ∨
    (s.toFlag = false ∧ ∃ x, classify s.sr = .rangeFault x ∧
      t = { s.takeFault (zext16 x) rangeSentinel with toFlag := false, fsm := .idle }) ∨
    (s.toFlag = false ∧ ∃ x u m, classify s.sr = .valid x ∧
      s.avgUpdate (eff s.params s.curDev) x = .next (u, m) ∧
      t = { u.respond .done (zext16 m) with toFlag := false, fsm := .idle }) := by
  unfold State.deselected at h
  obtain ⟨a, ha, hb⟩ := andThen_eq_next.1 h
  injection hb with hb
  unfold State.reportRead at ha
  split at ha
  · next hf => injection ha with ha; subst ha; exact .inl ⟨hf, hb.symm⟩
  · next hf =>
    have hf : s.toFlag = false := by simpa using hf
    split at ha
    · next hc => injection ha with ha; subst ha; exact .inr (.inl ⟨hf, hc, hb.symm⟩)
    · next x hc => injection ha with ha; subst ha; exact .inr (.inr (.inl ⟨hf, x, hc, hb.symm⟩))
    · next x hc =>
      obtain ⟨⟨u, m⟩, hu, hm⟩ := andThen_eq_next.1 ha
      injection hm with hm; subst hm
      exact .inr (.inr (.inr ⟨hf, x, u, m, hc, hu, hb.symm⟩))

end Sys2Proof.Machine
end

