-- ==== Sys2Proof/Laws/PerInstr.lean ====
section
/-! SUPPORT. Statements made for each instruction as syntax. -/

namespace Sys2Proof.Laws

/-! The family CommandWord: an instruction has a word exactly when the host can issue it, and the word decodes to it (R77, R88). -/

/-- What the family says of one instruction. -/
def CommandWord.Statement (i : Instr) : Prop :=
  (encode i).isSome = i.isCommand ∧ ∀ w, encode i = some w → decode w = .instr i

theorem CommandWord.setup : CommandWord.Statement .setup :=
  ⟨rfl, fun w h => by injection h with h; subst h; decide⟩

theorem CommandWord.startAll : CommandWord.Statement .startAll :=
  ⟨rfl, fun w h => by injection h with h; subst h; decide⟩

theorem CommandWord.read (dev : DevIdx) : CommandWord.Statement (.read dev) :=
  ⟨rfl, fun w h => by injection h with h; subst h; revert dev; decide⟩

theorem CommandWord.select (dev : DevIdx) (active : Bool) : CommandWord.Statement (.select dev active) :=
  ⟨rfl, fun _ h => nomatch h⟩

theorem CommandWord.xferByte : CommandWord.Statement .xferByte := ⟨rfl, fun _ h => nomatch h⟩

theorem CommandWord.readRaw (dev : DevIdx) : CommandWord.Statement (.readRaw dev) := ⟨rfl, fun _ h => nomatch h⟩

theorem CommandWord.classify (raw : Word) : CommandWord.Statement (.classify raw) := ⟨rfl, fun _ h => nomatch h⟩

theorem CommandWord.avgInit : CommandWord.Statement .avgInit := ⟨rfl, fun _ h => nomatch h⟩

theorem CommandWord.avgUpdate (d : DevIdx) (v : Decoded) : CommandWord.Statement (.avgUpdate d v) :=
  ⟨rfl, fun _ h => nomatch h⟩

end Sys2Proof.Laws
end

