-- ==== Sys2Proof/Laws/Step.lean ====
section
/-! SUPPORT. What one cycle does, one equation for each state of the sequencer; all that a step can do, said once; and runs. -/

namespace Sys2Proof.Machine

/-! ## The beginning of a cycle -/

/-- A core whose byte engine rests only lets its pulses fall. -/
theorem beginCycle_rest {s : State} (h : s.xferActive = false) : s.beginCycle = s.clearPulses := by
  unfold State.beginCycle; exact byteEngine_holds (.inl (by simpa using h))

/-- Without `bus_ready` a cycle begins with nothing but the pulses' fall. -/
theorem beginCycle_stalled {s : State} (h : s.inputs.busReady = false) : s.beginCycle = s.clearPulses := by
  unfold State.beginCycle; exact byteEngine_holds (.inr h)

@[simp] theorem beginCycle_params (s : State) : s.beginCycle.params = s.params := by simp [State.beginCycle]
@[simp] theorem beginCycle_fsm (s : State) : s.beginCycle.fsm = s.fsm := by simp [State.beginCycle]
@[simp] theorem beginCycle_phase (s : State) : s.beginCycle.phase = s.phase := by simp [State.beginCycle]
@[simp] theorem beginCycle_curDev (s : State) : s.beginCycle.curDev = s.curDev := by simp [State.beginCycle]
@[simp] theorem beginCycle_dlyCnt (s : State) : s.beginCycle.dlyCnt = s.dlyCnt := by simp [State.beginCycle]
@[simp] theorem beginCycle_sr (s : State) : s.beginCycle.sr = s.sr := by simp [State.beginCycle]
@[simp] theorem beginCycle_toCnt (s : State) : s.beginCycle.toCnt = s.toCnt := by simp [State.beginCycle]
@[simp] theorem beginCycle_toFlag (s : State) : s.beginCycle.toFlag = s.toFlag := by simp [State.beginCycle]
@[simp] theorem beginCycle_csN (s : State) : s.beginCycle.csN = s.csN := by simp [State.beginCycle]
@[simp] theorem beginCycle_mosi (s : State) : s.beginCycle.mosi = s.mosi := by simp [State.beginCycle]
@[simp] theorem beginCycle_busLock (s : State) : s.beginCycle.busLock = s.busLock := by simp [State.beginCycle]
@[simp] theorem beginCycle_rspStatus (s : State) : s.beginCycle.rspStatus = s.rspStatus := by simp [State.beginCycle]
@[simp] theorem beginCycle_rspData (s : State) : s.beginCycle.rspData = s.rspData := by simp [State.beginCycle]
@[simp] theorem beginCycle_faultCode (s : State) : s.beginCycle.faultCode = s.faultCode := by simp [State.beginCycle]
@[simp] theorem beginCycle_windows (s : State) : s.beginCycle.windows = s.windows := by simp [State.beginCycle]
@[simp] theorem beginCycle_sensors (s : State) : s.beginCycle.sensors = s.sensors := by simp [State.beginCycle]
@[simp] theorem beginCycle_env (s : State) : s.beginCycle.env = s.env := by simp [State.beginCycle]
@[simp] theorem beginCycle_cycle (s : State) : s.beginCycle.cycle = s.cycle := by simp [State.beginCycle]
@[simp] theorem beginCycle_result (s : State) : s.beginCycle.result = s.result := by simp [State.beginCycle]
@[simp] theorem beginCycle_rspValid (s : State) : s.beginCycle.rspValid = false := by simp [State.beginCycle]
@[simp] theorem beginCycle_faultValid (s : State) : s.beginCycle.faultValid = false := by simp [State.beginCycle]

/-! ## One cycle in each state -/

theorem step_reset {s : State} (h : s.inputs.rst = true) : step s = .next (s.endCycle s.resetEdge) := by
  simp [step, State.fetch, h]

theorem step_quiet {s : State} (hr : s.inputs.rst = false) (hf : s.fsm = .idle)
    (hv : s.inputs.cmdValid = false) : step s = .next (s.endCycle s.beginCycle) := by
  simp [step, State.fetch, hr, hf, hv]

theorem step_accept {s : State} {c : Byte} {i : Instr} (h : s.accepts c) (hd : decode c = .instr i) :
    step s = andThen (exec i s.beginCycle) fun t => .next (s.endCycle t) := by
  obtain ⟨hf, hr, hv, hc⟩ := h
  subst hc
  simp [step, State.fetch, hf, hr, hv, hd]

theorem step_illegal {s : State} {c : Byte} {why : IllegalWord} (h : s.accepts c) (hd : decode c = .illegal why) :
    step s = .next (s.endCycle s.beginCycle.refuseIllegal) := by
  obtain ⟨hf, hr, hv, hc⟩ := h
  subst hc
  simp [step, State.fetch, hf, hr, hv, hd]

theorem step_busy {s : State} (hr : s.inputs.rst = false) (hf : s.fsm ≠ .idle) :
    step s = andThen (s.sequence s.beginCycle) fun t => .next (s.endCycle t) := by
  simp [step, State.fetch, hr, hf]

theorem step_selected {s : State} (hr : s.inputs.rst = false) (hf : s.fsm = .selected) :
    step s = .next (s.endCycle s.beginCycle.selected) := by
  rw [step_busy hr (by simp [hf])]; simp [State.sequence, hf]

theorem step_latched {s : State} (hr : s.inputs.rst = false) (hf : s.fsm = .latched) :
    step s = .next (s.endCycle s.beginCycle.latched) := by
  rw [step_busy hr (by simp [hf])]; simp [State.sequence, hf]

theorem step_byteMsb {s : State} (hr : s.inputs.rst = false) (hf : s.fsm = .byteMsb) :
    step s = .next (s.endCycle (s.beginCycle.byteMsb s.xferDone s.rxByte)) := by
  rw [step_busy hr (by simp [hf])]; simp [State.sequence, hf]

theorem step_byteLsb {s : State} (hr : s.inputs.rst = false) (hf : s.fsm = .byteLsb) :
    step s = .next (s.endCycle (s.beginCycle.byteLsb s.xferDone s.rxByte)) := by
  rw [step_busy hr (by simp [hf])]; simp [State.sequence, hf]

/-- A cycle that waits for its byte: the time-out step, laid over the byte engine. -/
theorem step_waiting {s : State} (hr : s.inputs.rst = false) (hf : s.fsm.inByte = true) (hd : s.xferDone = false) :
    step s = .next (s.endCycle s.beginCycle.timeoutStep) := by
  cases h : s.fsm <;> simp [h, Fsm.inByte] at hf
  · rw [step_byteMsb hr h]; simp [State.byteMsb, hd]
  · rw [step_byteLsb hr h]; simp [State.byteLsb, hd]

theorem step_deselected {s : State} (hr : s.inputs.rst = false) (hf : s.fsm = .deselected) :
    step s = andThen s.beginCycle.deselected fun t => .next (s.endCycle t) := by
  rw [step_busy hr (by simp [hf])]; simp [State.sequence, hf]

theorem step_setupInit {s : State} (hr : s.inputs.rst = false) (hf : s.fsm = .setupInit) :
    step s = .next (s.endCycle s.beginCycle.setupInit) := by
  rw [step_busy hr (by simp [hf])]; simp [State.sequence, hf]

theorem step_saDesel {s : State} (hr : s.inputs.rst = false) (hf : s.fsm = .saDesel) :
    step s = .next (s.endCycle s.beginCycle.saDesel) := by
  rw [step_busy hr (by simp [hf])]; simp [State.sequence, hf]

theorem step_saAssert {s : State} (hr : s.inputs.rst = false) (hf : s.fsm = .saAssert) :
    step s = .next (s.endCycle s.beginCycle.saAssert) := by
  rw [step_busy hr (by simp [hf])]; simp [State.sequence, hf]

theorem step_saConv {s : State} (hr : s.inputs.rst = false) (hf : s.fsm = .saConv) :
    step s = .next (s.endCycle s.beginCycle.saConv) := by
  rw [step_busy hr (by simp [hf])]; simp [State.sequence, hf]

/-! ## All that a step can do -/

/-- The word of a legal command, and the three instructions a word can stand for. -/
theorem decode_command {c : Byte} {i : Instr} (h : decode c = .instr i) :
    i = .setup ∨ i = .startAll ∨ ∃ dev, i = .read dev := by
  unfold decode at h
  split_ifs at h <;> injection h with h <;> subst h <;> simp

/-- The words of the three commands (R77). -/
theorem decode_setup {c : Byte} (h : decode c = .instr .setup) : c = 0x10 := by revert c; decide
theorem decode_startAll {c : Byte} (h : decode c = .instr .startAll) : c = 0x20 := by revert c; decide
theorem decode_read {c : Byte} {dev : DevIdx} (h : decode c = .instr (.read dev)) : c = wordC8 0x3 dev := by
  revert c dev; decide

/-- If a step answers a next state, it ends the cycle on one of these: a reset edge, a quiet cycle, an answered word, an accepted command, a cycle of a wait state, of LATCHED, of a byte's wait, or the DESELECTED cycle. -/
theorem step_cases {s t : State} (h : step s = .next t) : ∃ u, t = s.endCycle u ∧
    ((s.inputs.rst = true ∧ u = s.resetEdge) ∨
     (s.inputs.rst = false ∧
      ((s.fsm = .idle ∧ (u = s.beginCycle ∨ u = s.beginCycle.refuseIllegal ∨ u = s.beginCycle.refuseOrder)) ∨
       (s.accepts 0x10 ∧ u = s.beginCycle.deselectAll.enterWait s.params.cSetup .setupInit) ∨
       (s.accepts 0x20 ∧ s.phase ≠ .unconfigured ∧
        u = ({ s.beginCycle with curDev := 0 }.selectLine 0 false).enterWait s.params.cSettle .saDesel) ∨
       (s.phase = .started ∧ ∃ dev, s.accepts (wordC8 0x3 dev) ∧ u = s.beginCycle.startRead dev) ∨
       (s.fsm = .selected ∧ u = s.beginCycle.selected) ∨
       (s.fsm = .latched ∧ u = s.beginCycle.latched) ∨
       (s.fsm.inByte = true ∧ s.xferDone = false ∧ u = s.beginCycle.timeoutStep) ∨
       (s.fsm = .byteMsb ∧ s.xferDone = true ∧ u = s.beginCycle.byteMsb true s.rxByte) ∨
       (s.fsm = .byteLsb ∧ s.xferDone = true ∧ u = s.beginCycle.byteLsb true s.rxByte) ∨
       (s.fsm = .deselected ∧ s.beginCycle.deselected = .next u) ∨
       (s.fsm = .setupInit ∧ u = s.beginCycle.setupInit) ∨
       (s.fsm = .saDesel ∧ u = s.beginCycle.saDesel) ∨
       (s.fsm = .saAssert ∧ u = s.beginCycle.saAssert) ∨
       (s.fsm = .saConv ∧ u = s.beginCycle.saConv)))) := by
  cases hr : s.inputs.rst with
  | true => rw [step_reset hr] at h; injection h with h; exact ⟨_, h.symm, .inl ⟨rfl, rfl⟩⟩
  | false =>
    cases hf : s.fsm with
    | idle =>
      cases hv : s.inputs.cmdValid with
      | false =>
        rw [step_quiet hr hf hv] at h; injection h with h
        exact ⟨_, h.symm, by simp⟩
      | true =>
        have ha : s.accepts s.inputs.cmd := ⟨hf, hr, hv, rfl⟩
        cases hd : decode s.inputs.cmd with
        | illegal why =>
          rw [step_illegal ha hd] at h; injection h with h
          exact ⟨_, h.symm, by simp⟩
        | instr i =>
          rw [step_accept ha hd] at h
          obtain ⟨u, hu, he⟩ := andThen_eq_next.1 h
          injection he with he
          refine ⟨u, he.symm, .inr ⟨rfl, ?_⟩⟩
          rcases decode_command hd with rfl | rfl | ⟨dev, rfl⟩
          · have hc := decode_setup hd
            rw [hc] at ha
            simp only [exec, execSetup, phaseAllows, if_true] at hu
            injection hu with hu
            exact .inr (.inl ⟨ha, by simp [← hu]⟩)
          · have hc := decode_startAll hd
            rw [hc] at ha
            simp only [exec, execStartAll] at hu
            split at hu <;> injection hu with hu
            · next hp => exact .inr (.inr (.inl ⟨ha, by simpa [phaseAllows] using hp, by simp [← hu]⟩))
            · exact .inl ⟨rfl, .inr (.inr hu.symm)⟩
          · have hc := decode_read hd
            rw [hc] at ha
            simp only [exec, execRead] at hu
            split at hu <;> injection hu with hu
            · next hp =>
              exact .inr (.inr (.inr (.inl ⟨by simpa [phaseAllows] using hp, dev, ha, hu.symm⟩)))
            · exact .inl ⟨rfl, .inr (.inr hu.symm)⟩
    | byteMsb =>
      cases hd : s.xferDone with
      | false =>
        rw [step_waiting hr (by simp [hf, Fsm.inByte]) hd] at h; injection h with h
        exact ⟨_, h.symm, by simp [Fsm.inByte]⟩
      | true =>
        rw [step_byteMsb hr hf, hd] at h; injection h with h
        exact ⟨_, h.symm, by simp⟩
    | byteLsb =>
      cases hd : s.xferDone with
      | false =>
        rw [step_waiting hr (by simp [hf, Fsm.inByte]) hd] at h; injection h with h
        exact ⟨_, h.symm, by simp [Fsm.inByte]⟩
      | true =>
        rw [step_byteLsb hr hf, hd] at h; injection h with h
        exact ⟨_, h.symm, by simp⟩
    | deselected =>
      rw [step_deselected hr hf] at h
      obtain ⟨u, hu, he⟩ := andThen_eq_next.1 h
      injection he with he
      exact ⟨u, he.symm, by simp [hu]⟩
    | selected => rw [step_selected hr hf] at h; injection h with h; exact ⟨_, h.symm, by simp⟩
    | latched => rw [step_latched hr hf] at h; injection h with h; exact ⟨_, h.symm, by simp⟩
    | setupInit => rw [step_setupInit hr hf] at h; injection h with h; exact ⟨_, h.symm, by simp⟩
    | saDesel => rw [step_saDesel hr hf] at h; injection h with h; exact ⟨_, h.symm, by simp⟩
    | saAssert => rw [step_saAssert hr hf] at h; injection h with h; exact ⟨_, h.symm, by simp⟩
    | saConv => rw [step_saConv hr hf] at h; injection h with h; exact ⟨_, h.symm, by simp⟩

/-- What surrounds the core after one step: the inputs move on by one cycle, and each sensor's record takes the edge of its line. -/
theorem step_environment {s t : State} (h : step s = .next t) :
    t.env = s.env.tail ∧ t.cycle = s.cycle + 1 ∧ t.sensors = tickSensors s.csN t.csN 0 s.sensors := by
  obtain ⟨u, rfl, hc⟩ := step_cases h
  have key : u.env = s.env ∧ u.cycle = s.cycle ∧ u.sensors = s.sensors := by
    clear h
    rcases hc with ⟨-, rfl⟩ | ⟨-, hc⟩
    · simp
    rcases hc with ⟨-, rfl | rfl | rfl⟩ | ⟨-, rfl⟩ | ⟨-, -, rfl⟩ | ⟨-, dev, -, rfl⟩ | ⟨-, rfl⟩ | ⟨-, rfl⟩ |
      ⟨-, -, rfl⟩ | ⟨-, -, rfl⟩ | ⟨-, -, rfl⟩ | ⟨-, hd⟩ | ⟨-, rfl⟩ | ⟨-, rfl⟩ | ⟨-, rfl⟩ | ⟨-, rfl⟩
    · simp
    · simp
    · simp
    · simp
    · simp
    · simp
    · simp only [State.selected, State.wait, State.endSelected]; split <;> simp
    · simp [State.latched]
    · simp only [State.timeoutStep]; split <;> (try split) <;> simp [State.abort]
    · simp [State.byteMsb]
    · simp [State.byteLsb]
    · rcases deselected_cases hd with ⟨-, rfl⟩ | ⟨-, -, rfl⟩ | ⟨-, x, -, rfl⟩ | ⟨-, x, v, m, -, ha, rfl⟩
      · simp
      · simp
      · simp
      · rcases avgUpdate_cases ha with ⟨-, rfl, -⟩ | ⟨-, w, old, -, -, rfl, -⟩ <;> simp
    · simp only [State.setupInit, State.finishSetup]; split <;> simp
    · simp only [State.saDesel, State.wait, State.endSaDesel]; split <;> simp
    · simp only [State.saAssert, State.wait, State.endSaAssert]; split <;> simp
    · simp only [State.saConv, State.wait, State.endSaConv]; split <;> (try split) <;> simp
  obtain ⟨he, hn, hs⟩ := key
  refine ⟨by simp [he], by simp [hn], by simp [State.endCycle, hs]⟩

/-! ## Runs -/

@[simp] theorem runFor_zero (s : State) : runFor 0 s = .next s := rfl

theorem runFor_succ (n : Nat) (s : State) : runFor (n + 1) s = andThen (step s) (runFor n) := by
  cases h : step s with
  | next t => simp only [runFor, Host.Core.run, show core.step s = .next t from h, andThen_next]; rfl
  | fault r => simp only [runFor, Host.Core.run, show core.step s = .fault r from h, andThen_fault]; rfl
  | refused r => simp only [runFor, Host.Core.run, show core.step s = .refused r from h, andThen_refused]; rfl

/-- A run of m + n cycles is a run of n from where a run of m ends. -/
theorem runFor_add (m n : Nat) (s : State) : runFor (m + n) s = andThen (runFor m s) (runFor n) := by
  induction m generalizing s with
  | zero => simp
  | succ m ih =>
    rw [Nat.succ_add, runFor_succ, runFor_succ]
    cases step s with
    | next t => simp only [andThen_next]; exact ih t
    | fault r => rfl
    | refused r => rfl

/-- One invariant that every step keeps holds at the end of every run: the induction, once. -/
theorem runFor_keeps {P : State → Prop} (hP : ∀ s, P s → ∃ t, step s = .next t ∧ P t) (n : Nat) {s : State}
    (h : P s) : ∃ t, runFor n s = .next t ∧ P t := by
  induction n generalizing s with
  | zero => exact ⟨s, rfl, h⟩
  | succ n ih =>
    obtain ⟨t, ht, hp⟩ := hP s h
    obtain ⟨u, hu, hpu⟩ := ih hp
    exact ⟨u, by rw [runFor_succ, ht]; exact hu, hpu⟩

/-! ## The inputs of a run -/

@[simp] theorem inputAt_zero (s : State) : s.inputAt 0 = s.inputs := by
  unfold State.inputAt State.inputs; cases s.env <;> simp

/-- The operations leave the list of inputs and the counter alone; only the end of a cycle moves them. -/
theorem inputAt_endCycle {s u : State} (he : u.env = s.env) (hc : u.cycle = s.cycle) (j : Nat) :
    (s.endCycle u).inputAt j = s.inputAt (j + 1) := by
  unfold State.inputAt
  simp only [endCycle_env, endCycle_cycle, he, hc, List.getElem?_tail]
  rw [show s.cycle + 1 + j = s.cycle + (j + 1) by omega]

/-- The inputs a run reads after one step are those it would have read a cycle later. -/
theorem inputAt_step {s t : State} (h : step s = .next t) (j : Nat) : t.inputAt j = s.inputAt (j + 1) := by
  obtain ⟨he, hn, -⟩ := step_environment h
  unfold State.inputAt
  simp only [he, hn, List.getElem?_tail]
  rw [show s.cycle + 1 + j = s.cycle + (j + 1) by omega]

/-- A run that is never reset stays so after one step. -/
theorem noReset_step {s t : State} {n : Nat} (h : step s = .next t) (hr : s.noReset (n + 1)) : t.noReset n := by
  intro j hj
  rw [inputAt_step h]; exact hr _ (by omega)

/-! ## The ready cycles of a run (R105, R108) -/

@[simp] theorem readyCycles_zero (s : State) (i : Nat) : s.readyCycles i 0 = [] := rfl

theorem readyCycles_succ (s : State) (i n : Nat) :
    s.readyCycles i (n + 1) =
      (if (s.inputAt i).busReady then [i] else []) ++ s.readyCycles (i + 1) n := by
  unfold State.readyCycles
  rw [List.range'_succ, List.filter_cons]
  split <;> simp

theorem readyCycles_length_le (s : State) (i n : Nat) : (s.readyCycles i n).length ≤ n := by
  unfold State.readyCycles
  exact le_of_le_of_eq (List.length_filter_le _ _) (by simp)

/-- With `bus_ready` = 1 throughout, every cycle is a ready cycle. -/
theorem readyCycles_all {s : State} {i n : Nat} (h : ∀ j, i ≤ j → j < i + n → (s.inputAt j).busReady = true) :
    s.readyCycles i n = List.range' i n := by
  unfold State.readyCycles
  rw [List.filter_eq_self]
  intro j hj
  rw [List.mem_range'_1] at hj
  exact h j hj.1 hj.2

/-- Seen from one step later, the same ready cycles have numbers one lower. -/
theorem readyCycles_step {s t : State} (h : step s = .next t) (i n : Nat) :
    s.readyCycles (i + 1) n = (t.readyCycles i n).map (· + 1) := by
  induction n generalizing i with
  | zero => rfl
  | succ n ih =>
    rw [readyCycles_succ, readyCycles_succ, ih, inputAt_step h]
    split <;> simp

end Sys2Proof.Machine
end

