-- ==== Sys2Proof/Tests/Slice0.lean ====
section
/-! SUPPORT. The model's own tests, and a witness for the hypotheses of every statement. A test's expected values come from the spec file named in its docstring. -/

namespace Sys2Proof.Tests

open Sys2Proof.Machine

/-! ## WellFormed (R129) -/

theorem test_wellFormed_low : (Instr.avgUpdate 0 9).wellFormed = false := by decide
theorem test_wellFormed_high : (Instr.avgUpdate 1 1201).wellFormed = false := by decide
theorem test_wellFormed_bounds :
    (Instr.avgUpdate 0 10).wellFormed = true ∧ (Instr.avgUpdate 1 1200).wellFormed = true := by decide

/-! ## Decoding, from words written out by the fields of R76: OPC, RSV, DEV (95_test_vectors V-DE-1 to V-DE-12) -/

theorem test_decode_setup : decode 0b0001_000_0#8 = .instr .setup := by decide
theorem test_decode_startAll : decode 0b0010_000_0#8 = .instr .startAll := by decide
theorem test_decode_read :
    decode 0b0011_000_0#8 = .instr (.read 0) ∧ decode 0b0011_000_1#8 = .instr (.read 1) := by decide
theorem test_decode_reserved :
    decode 0b0011_001_0#8 = .illegal .reservedBits ∧ decode 0b0011_111_0#8 = .illegal .reservedBits := by decide
theorem test_decode_dev :
    decode 0b0001_000_1#8 = .illegal .devWithoutOperand ∧
    decode 0b0010_000_1#8 = .illegal .devWithoutOperand := by decide
theorem test_decode_unused :
    decode 0b0000_000_0#8 = .illegal .unusedOpcode ∧ decode 0b0100_000_0#8 = .illegal .unusedOpcode ∧
    decode 0b1111_000_0#8 = .illegal .unusedOpcode := by decide
theorem test_decodeTableWord :
    decodeTableWord 8 0x10 = some .setup ∧ decodeTableWord 8 0x20 = some .startAll ∧
    decodeTableWord 8 0x31 = some (.read 1) ∧ decodeTableWord 8 0x32 = none ∧
    decodeTableWord 8 0x130 = none := by decide
theorem test_encode :
    encode .setup = some 0x10 ∧ encode .startAll = some 0x20 ∧ encode (.read 0) = some 0x30 ∧
    encode (.read 1) = some 0x31 ∧ encode .avgInit = none := by decide
/-- R89: the comment, the padding, the digits of `.byte`, and what is rejected. -/
theorem test_assemble :
    assembleLine "; SETUP".toList = some [] ∧
    (assembleLine ".byte 0xfE".toList).map (·.flatMap AsmItem.emit) = some [0xFE] ∧
    assembleLine ".byte 0x1".toList = none ∧ assembleLine "READ 01".toList = none ∧
    assembleLine "setup".toList = none ∧
    assembleLine "env sensor 1 = 0x0190".toList = some [.envSensor 1 0x0190] ∧
    assembleLine "env bus_ready = 0".toList = some [.envBusReady false] := by decide

/-! ## States the tests and the witnesses stand on -/

/-- Two devices, averaging with k = 1, a time-out of 20 cycles, small delays. -/
def blockA : Params :=
  { Config.defaultParams with
    avgEnabled := true, windowBits := 1, cSettle := 1, cStart := 2, cConv := 3, cSetup := 2, cLatch := 2
    busTimeout := some 20 }

/-- One device, no averaging, no time-out, the absent index unrouted. -/
def blockB : Params :=
  { Config.defaultParams with deviceCount := .one, absentSelect := .noop }

/-- As blockB, the absent index aliased. -/
def blockC : Params := { blockB with absentSelect := .aliasLine0 }

/-- A cycle with nothing on the command port and the bus ready. -/
def idleInput : Inputs where
  rst := false
  cmdValid := false
  cmd := 0
  miso := false
  busReady := true

/-- A cycle with the word c on the command port. -/
def cmdInput (c : Byte) : Inputs := { idleInput with cmdValid := true, cmd := c }

/-- A block as it stands after its SETUP and START_ALL, in the cycle that presents the inputs e. -/
def started (p : Params) (e : List Inputs) : State :=
  { State.resetWith p with
    phase := .started
    windows := if p.avgEnabled then List.replicate p.deviceCount.toNat (initWindow p) else []
    env := e }

/-- The same block inside a READ of device dev, in the state f of the sequencer. -/
def reading (p : Params) (f : Fsm) (dev : DevIdx) (e : List Inputs) : State :=
  { started p e with fsm := f, curDev := dev, busLock := true, csN := linesWith p dev }

/-- The same block inside a START_ALL, in the state f with device dev. -/
def sequencing (p : Params) (f : Fsm) (dev : DevIdx) (e : List Inputs) : State :=
  { started p e with
    fsm := f, curDev := dev, phase := .configured
    csN := if f == .saAssert then linesWith p dev else allOnes p }

/-- The state an outcome leaves, if it leaves one. -/
def landed : Outcome → Option State
  | .next t => some t
  | .fault _ => none
  | .refused _ => none

/-- The state a step leaves. -/
def after (s : State) : Option State := landed (step s)

/-- The state an instruction leaves. -/
def effect (i : Instr) (s : State) : Option State := landed (exec i s)

/-! ## One test or two for each instruction -/

/-- V-TL-1: SETUP ends with both windows [100, 100], sums 200, CONFIGURED, DONE. -/
theorem test_setup_ends :
    (after { started blockA [idleInput] with fsm := .setupInit, phase := .unconfigured, windows := blankWindows blockA }).map
      (fun t => (t.windows, t.phase, t.rspValid, t.rspStatus)) =
      some ([⟨[100, 100], 0, 200⟩, ⟨[100, 100], 0, 200⟩], .configured, true, 0b00) := by decide

/-- V-SA-4: START_ALL before SETUP is answered ORDER in cycle 1 and `cs_n` does not change. -/
theorem test_startAll_order :
    (after { State.resetWith blockA with env := [cmdInput 0x20] }).map
      (fun t => (t.rspValid, t.rspStatus, t.rspData, t.csN, t.fsm)) =
      some (true, 0b10, 0, [true, true], .idle) := by decide

/-- V-SA-1: what the end of SA_ASSERT of device 0 does: the line rises, sensor 0 starts its conversion. -/
theorem test_startAll_edge :
    (after (sequencing blockA .saAssert 0 [idleInput])).map (fun t => (t.csN, t.fsm, t.sensors)) =
      some ([true, true], .saConv, [⟨true, 0⟩, ⟨false, 0⟩]) := by decide

/-- T1, cycles 0 and 1: READ 1 asserts `cs_n[1]` and takes the lock. -/
theorem test_read_selects :
    (after (started blockA [cmdInput 0x31])).map (fun t => (t.csN, t.busLock, t.fsm, t.dlyCnt)) =
      some ([true, false], true, .selected, 1) := by decide

/-- P2, step 3 (with k = 1: (100 + 40) / 2 = 70): the DESELECTED cycle averages a valid word and answers it. -/
theorem test_read_answers :
    (after { started blockA [idleInput] with fsm := .deselected, curDev := 1, sr := 0x0140 }).map
      (fun t => (t.rspData, t.rspStatus, t.faultValid, t.windows)) =
      some (70, 0b00, false, [⟨[100, 100], 0, 200⟩, ⟨[40, 100], 1, 140⟩]) := by decide

/-- V-DS-2, V-DS-3. -/
theorem test_select_two :
    (effect (.select 1 true) (started blockA [])).map State.csN = some [true, false] ∧
    (effect (.select 1 false) (reading blockA .saConv 1 [])).map State.csN = some [true, true] := by decide

/-- V-DS-4, V-DS-5, V-DS-6. -/
theorem test_select_absent :
    (effect (.select 1 true) (started blockC [])).map State.csN = some [false] ∧
    (effect (.select 1 true) (started blockB [])).map State.csN = some [true] ∧ eff blockB 1 = 0 := by decide

/-- V-SR-1: the last bit (0) of 1,0,1,1,0,0,1,0 is sampled into 0xB2. -/
theorem test_xferByte_samples :
    (after { reading blockA .byteMsb 0 [idleInput] with xferActive := true, bitCnt := 7, rxByte := 0b01011001 }).map
      (fun t => (t.rxByte, t.sck, t.xferDone)) = some (0xB2, true, false) := by decide

/-- V-SR-1: the eighth falling edge makes the byte ready. -/
theorem test_xferByte_completes :
    (after { reading blockA .byteMsb 0 [idleInput] with
      xferActive := true, bitCnt := 7, rxByte := 0xB2, sck := true }).map
      (fun t => (t.rxByte, t.sck, t.xferActive, t.xferDone, t.fsm)) =
      some (0xB2, false, false, true, .byteMsb) := by decide

/-- T1, cycle 37: the LSB byte is stored, `cs_n[1]` rises and `bus_lock` falls at one edge. -/
theorem test_readRaw_ends :
    (after { reading blockA .byteLsb 1 [idleInput] with xferDone := true, rxByte := 0x90, sr := 0x01FF }).map
      (fun t => (t.sr, t.csN, t.busLock, t.fsm)) = some (0x0190, [true, true], false, .deselected) := by decide

/-- V-SR-6: the cycle in which `to_cnt` is T − 1 = 19 aborts. -/
theorem test_readRaw_aborts :
    (after { reading blockA .byteMsb 1 [{ idleInput with busReady := false }] with xferActive := true, toCnt := 19 }).map
      (fun t => (t.toFlag, t.csN, t.busLock, t.fsm)) = some (true, [true, true], false, .deselected) := by decide

/-- V-CL-1 to V-CL-10, V-CL-12. -/
theorem test_classify_bounds :
    classify 0x0000 = .lineFault ∧ classify 0xFFFF = .lineFault ∧ classify 0x0057 = .lineFault ∧
    classify 0x0050 = .valid 10 ∧ classify 0x0053 = .valid 10 ∧ classify 0x0048 = .rangeFault 9 ∧
    classify 0x2580 = .valid 1200 ∧ classify 0x2588 = .rangeFault 1201 ∧ classify 0x0001 = .rangeFault 0 := by decide

/-- V-CL-15, V-CL-18, S1. -/
theorem test_classify_logical_shift :
    classify 0x8000 = .rangeFault 4096 ∧ classify 0xFFFB = .rangeFault 8191 ∧ classify 0x0190 = .valid 50 := by decide

/-- S6, for k = 1. -/
theorem test_avgInit :
    (effect .avgInit (State.resetWith blockA)).map State.windows =
      some [⟨[100, 100], 0, 200⟩, ⟨[100, 100], 0, 200⟩] := by decide

/-- V-AV-2: 10 gives 55, then 11 gives 10 (truncated from 10.5). -/
theorem test_avgUpdate_truncates :
    (effect (.avgUpdate 0 10) (started blockA [])).map (fun t => (t.result, t.windows[0]?)) =
      some (.mean 55, some ⟨[10, 100], 1, 110⟩) ∧
    (effect (.avgUpdate 0 11) { started blockA [] with windows := [⟨[10, 100], 1, 110⟩] }).map
      (fun t => (t.result, t.windows[0]?)) = some (.mean 10, some ⟨[10, 11], 0, 21⟩) := by decide

/-- V-AV-7. -/
theorem test_avgUpdate_off : (effect (.avgUpdate 1 40) (started blockB [])).map State.result = some (.mean 40) := by
  decide

/-- V-RS-1, V-RS-2: a reset in BYTE_MSB; the line of device 0 rises and sensor 0 starts a conversion. -/
theorem test_reset_mid_read :
    (after (reading blockA .byteMsb 0 [{ idleInput with rst := true }])).map
      (fun t => (t.fsm, t.phase, t.csN, t.busLock, t.sensors)) =
      some (.idle, .unconfigured, [true, true], false, [⟨true, 0⟩, ⟨false, 0⟩]) := by decide

/-- V-TL-6: `rsp_data` read as int16. -/
theorem test_int16 : int16 0xFFFF = -1 ∧ int16 0x0FFF = 4095 ∧ int16 0xFFFE = -2 ∧ int16 0x04B0 = 1200 := by decide

/-- V-DE-1, V-DE-3 at reset: the very next step takes the word that `withFetchWord` presents, whatever the other inputs of the cycle are. -/
theorem test_withFetchWord :
    (after (State.reset.withFetchWord 8 0x10)).map (fun t => (t.fsm, t.rspValid)) = some (.setupInit, false) ∧
    (after (State.reset.withFetchWord 8 0x30)).map (fun t => (t.fsm, t.rspStatus)) = some (.idle, 0b10) := by decide

/-! ## The invariant of a concrete state -/

/-- The invariant as a computation, on a block's own data. -/
def invHolds (s : State) : Bool :=
  s.params.wf && s.sensors.length == s.params.deviceCount.toNat &&
  (if s.params.avgEnabled then s.windows.length == s.params.deviceCount.toNat else s.windows == []) &&
  s.windows.all (fun w => w.slots.length == s.params.windowSize && decide (w.head < s.params.windowSize) &&
    decide (w.sum < 2 ^ s.params.sumWidth)) &&
  (s.phase == .unconfigured || s.fsm == .setupInit ||
    s.windows.all (fun w => w.sum == (w.slots.map BitVec.toNat).sum &&
      w.slots.all (fun v => decide (10 ≤ v.toNat) && decide (v.toNat ≤ 1200)))) &&
  decide (s.dlyCnt ≤ s.params.maxDelay) && decide (s.divCnt ≤ s.params.sckDiv - 1) &&
  (match s.params.busTimeout with
   | none => s.toCnt == 0
   | some t => decide (s.toCnt < t)) &&
  (!s.toFlag || (s.fsm == .deselected && s.params.busTimeout != none)) &&
  s.csN == s.linesOfFsm && s.busLock == s.fsm.inTransaction &&
  (s.fsm.inByte || (!s.xferActive && !s.xferDone)) &&
  (!s.fsm.inByte || s.xferDone == !s.xferActive) &&
  (s.xferActive || !s.sck) && !s.mosi &&
  (!(s.fsm.inTransaction || s.fsm == .deselected) || s.phase == .started) &&
  (!s.fsm.inStartAll || s.phase != .unconfigured) &&
  (!s.fsm.inStartAll || decide (s.curDev.toNat < s.params.deviceCount.toNat)) &&
  s.rspStatus != 0b11 && (!s.faultValid || (s.rspValid && s.rspStatus == 0b00)) && s.result == .nothing

theorem inv_of_holds {s : State} (h : invHolds s = true) : s.Inv := by
  simp only [invHolds, Bool.and_eq_true, Bool.or_eq_true, beq_iff_eq, bne_iff_ne, decide_eq_true_eq,
    List.all_eq_true, Bool.not_eq_true'] at h
  obtain ⟨⟨⟨⟨⟨⟨⟨⟨⟨⟨⟨⟨⟨⟨⟨⟨⟨⟨⟨⟨h1, h2⟩, h3⟩, h4⟩, h5⟩, h6⟩, h7⟩, h8⟩, h9⟩, h10⟩, h11⟩, h12⟩, h13⟩, h14⟩, h15⟩,
    h16⟩, h17⟩, h18⟩, h19⟩, h20⟩, h21⟩ := h
  constructor
  · exact h1
  · exact h2
  · intro ha
    rw [ha] at h3
    exact ⟨by simpa using h3, fun w hw => ⟨(h4 w hw).1.1, (h4 w hw).1.2, (h4 w hw).2⟩⟩
  · intro ha
    rw [ha] at h3
    simpa using h3
  · intro hp hf w hw
    rcases h5 with (h5 | h5) | h5
    · exact absurd h5 hp
    · exact absurd h5 hf
    · exact h5 w hw
  · exact h6
  · exact h7
  · intro t ht
    rw [ht] at h8
    simpa using h8
  · intro ht
    rw [ht] at h8
    simpa using h8
  · intro ht
    rcases h9 with h9 | h9
    · rw [ht] at h9; cases h9
    · exact h9
  · exact h10
  · exact h11
  · intro hf
    rcases h12 with h12 | h12
    · rw [hf] at h12; cases h12
    · exact h12
  · intro hf
    rcases h13 with h13 | h13
    · rw [hf] at h13; cases h13
    · exact h13
  · intro ha
    rcases h14 with h14 | h14
    · rw [ha] at h14; cases h14
    · exact h14
  · exact h15
  · intro hf
    rcases h16 with h16 | h16
    · rw [Bool.or_eq_false_iff] at h16
      rcases hf with hf | hf
      · rw [hf] at h16; cases h16.1
      · rw [hf] at h16; cases h16.2
    · exact h16
  · intro hf
    rcases h17 with h17 | h17
    · rw [hf] at h17; cases h17
    · exact h17
  · intro hf
    rcases h18 with h18 | h18
    · rw [hf] at h18; cases h18
    · exact h18
  · exact h19
  · intro hf
    rcases h20 with h20 | h20
    · rw [hf] at h20; cases h20
    · exact h20
  · exact h21

theorem exists_after {s : State} {P : State → Bool} (h : (after s).any P = true) : ∃ t, step s = .next t ∧ P t = true := by
  unfold after at h
  cases hs : step s with
  | next t => rw [hs] at h; exact ⟨t, rfl, by simpa [landed] using h⟩
  | fault r => rw [hs] at h; cases h
  | refused r => rw [hs] at h; cases h

/-! ## Witnesses: for each statement with hypotheses, states and operands that meet them together -/

/-- A cycle in which the bus is not ready. -/
def stallInput : Inputs := { idleInput with busReady := false }

/-- A cycle with `rst` = 1. -/
def rstInput : Inputs := { idleInput with rst := true }

/-- The word c presented once, and then n cycles of i. -/
def thenFor (c : Byte) (n : Nat) (i : Inputs) : List Inputs := cmdInput c :: List.replicate n i

theorem witness_CommandWordsDecodeAsTabled :
    (0x0F : Byte) ≠ 0x10 ∧ (0x0F : Byte) ≠ 0x20 ∧ (0x0F : Byte) ≠ 0x30 ∧ (0x0F : Byte) ≠ 0x31 := by decide

theorem witness_ResetEdgeGivesResetValues :
    (reading blockA .byteMsb 1 [rstInput]).inputs.rst = true ∧ (started blockB [rstInput]).inputs.rst = true := by decide

theorem witness_ResetEstablishesTheInvariant : blockA.wf = true ∧ blockB.wf = true := by decide

theorem witness_EveryStepKeepsTheInvariant :
    (started blockA [cmdInput 0x31]).Inv ∧ (reading blockB .latched 1 []).Inv :=
  ⟨inv_of_holds (by decide), inv_of_holds (by decide)⟩

theorem witness_IdleLeavesTheBusAtRest : blockA.wf = true ∧ (State.resetWith blockA).fsm = .idle := by decide

/-- The clause on the windows is met too: a run from reset past its SETUP (V-TL-1). -/
theorem witness_WindowSumsAreTheSumsOfTheirSlots :
    ({ blockA with cSetup := 1 } : Params).wf = true ∧ ({ blockA with cSetup := 1 } : Params).avgEnabled = true ∧
    (landed (runFor 2
      { State.resetWith { blockA with cSetup := 1 } with env := [cmdInput 0x10, idleInput], cycle := 0 })).map
      (fun t => (t.phase, t.fsm, t.windows.length)) = some (.configured, .idle, 2) := by decide

theorem witness_AtMostOneLineIsAsserted :
    (reading blockA .selected 1 []).Inv ∧ ((started blockA []).Inv ∧ (started blockA []).fsm = .idle) :=
  ⟨inv_of_holds (by decide), inv_of_holds (by decide), rfl⟩

/-- The counters at the top of their ranges: dly_cnt = 2, head = 1 of two slots, sum = 2400. -/
theorem witness_CountersFitTheirWidths :
    ({ sequencing blockA .saConv 0 [] with
        dlyCnt := 2, windows := List.replicate 2 ⟨[1200, 1200], 1, 2400⟩ } : State).Inv :=
  inv_of_holds (by decide)

theorem witness_StepRunsTheAcceptedCommand :
    ((started blockA [cmdInput 0x31]).accepts 0x31 ∧ decode 0x31 = .instr (.read 1)) ∧
    (started blockA [cmdInput 0x31]).xferActive = false ∧
    ((started blockA [idleInput]).Inv ∧ (started blockA [idleInput]).fsm = .idle ∧
      (started blockA [idleInput]).inputs.rst = false ∧ (started blockA [idleInput]).inputs.cmdValid = false) :=
  ⟨⟨⟨rfl, rfl, rfl, rfl⟩, by decide⟩, rfl, inv_of_holds (by decide), rfl, rfl, rfl⟩

theorem witness_IllegalWordIsAnsweredIllegal :
    (started blockA [cmdInput 0x32]).Inv ∧ (started blockA [cmdInput 0x32]).accepts 0x32 ∧
    decode 0x32 = .illegal .reservedBits :=
  ⟨inv_of_holds (by decide), ⟨rfl, rfl, rfl, rfl⟩, by decide⟩

/-- The clauses in turn: SETUP; START_ALL when CONFIGURED and when STARTED; READ when STARTED; each refused. -/
theorem witness_PhaseCheckRefusesOutOfOrder :
    ((State.resetWith blockB).presentCommand 0x10).accepts 0x10 ∧
    ({ started blockA [cmdInput 0x20] with phase := .configured } : State).Inv ∧
    ({ started blockA [cmdInput 0x20] with phase := .configured } : State).accepts 0x20 ∧
    ((started blockA [cmdInput 0x20]).Inv ∧ (started blockA [cmdInput 0x20]).accepts 0x20) ∧
    ((started blockA [cmdInput 0x31]).Inv ∧ (started blockA [cmdInput 0x31]).accepts 0x31) ∧
    (({ started blockA [cmdInput 0x20] with phase := .unconfigured } : State).Inv ∧
      ({ started blockA [cmdInput 0x20] with phase := .unconfigured } : State).accepts 0x20) ∧
    (({ started blockA [cmdInput 0x30] with phase := .configured } : State).Inv ∧
      ({ started blockA [cmdInput 0x30] with phase := .configured } : State).accepts 0x30) :=
  ⟨⟨rfl, rfl, rfl, rfl⟩, inv_of_holds (by decide), ⟨rfl, rfl, rfl, rfl⟩,
    ⟨inv_of_holds (by decide), rfl, rfl, rfl, rfl⟩, ⟨inv_of_holds (by decide), rfl, rfl, rfl, rfl⟩,
    ⟨inv_of_holds (by decide), rfl, rfl, rfl, rfl⟩, ⟨inv_of_holds (by decide), rfl, rfl, rfl, rfl⟩⟩

theorem witness_BusyCoreIgnoresTheCommandPort : (sequencing blockA .saConv 1 []).fsm ≠ .idle := by decide

/-- One way each of not being at the sample point. -/
theorem witness_MisoIsReadOnlyAtTheSamplePoint :
    ¬ ((started blockA []).xferActive = true ∧ idleInput.busReady = true) ∧
    ¬ (stallInput.busReady = true ∧ (reading blockA .byteMsb 0 []).divCnt = blockA.sckDiv - 1) := by decide

/-- The first clause on device 1, the second on device 0 and, with a conversion in flight, on device 1. -/
theorem witness_RisingLineStartsAConversion :
    ∃ s t, s.Inv ∧ step s = .next t ∧ s.sensors[1]? = some ⟨true, 7⟩ ∧ s.sensors[0]? = some ⟨false, 0⟩ ∧
      s.csN[1]? = some false ∧ t.csN[1]? = some true ∧ s.csN[0]? = some true := by
  refine ⟨{ reading blockA .byteLsb 1 [idleInput] with xferDone := true, sensors := [⟨false, 0⟩, ⟨true, 7⟩] }, ?_⟩
  obtain ⟨t, ht, hp⟩ := exists_after (P := fun t => t.csN == [true, true])
    (s := { reading blockA .byteLsb 1 [idleInput] with xferDone := true, sensors := [⟨false, 0⟩, ⟨true, 7⟩] }) (by decide)
  exact ⟨t, inv_of_holds (by decide), ht, rfl, rfl, rfl, by simp [beq_iff_eq.1 hp], rfl⟩

theorem witness_StartAllAcceptanceEffect :
    (started blockA []).phase ≠ .unconfigured ∧ (State.resetWith blockA).phase = .unconfigured := by decide

theorem witness_ReadAcceptanceEffect :
    (started blockA []).phase = .started ∧ (State.resetWith blockA).phase ≠ .started := by decide

theorem witness_SelectDrivesTheRoutedLine :
    (started blockA []).params.deviceCount = .two ∧
    ((started blockC []).params.deviceCount = .one ∧ (started blockC []).params.absentSelect = .aliasLine0) ∧
    ((started blockB []).params.deviceCount = .one ∧ (started blockB []).params.absentSelect = .noop) := by decide

theorem witness_AvgInitFillsEveryWindow :
    (State.resetWith blockA).params.avgEnabled = true ∧ (State.resetWith blockB).params.avgEnabled = false := by decide

/-- The head at the end of its range. -/
theorem witness_AvgUpdateReplacesTheOldest :
    ∃ (s : State) (w : Window), s.params.avgEnabled = true ∧ s.windows[eff s.params 1]? = some w ∧
      w.slots[w.head]? = some 100 ∧ w.head + 1 = 2 ^ s.params.windowBits :=
  ⟨{ started blockA [] with windows := [⟨[100, 100], 0, 200⟩, ⟨[10, 100], 1, 110⟩] }, ⟨[10, 100], 1, 110⟩, by decide⟩

theorem witness_AvgUpdateIsIdentityWhenOff : (started blockB []).params.avgEnabled = false := by decide

theorem witness_AvgUpdateStaysInRange :
    (started blockA []).Inv ∧ (started blockA []).phase ≠ .unconfigured ∧ (started blockA []).fsm ≠ .setupInit ∧
    (Instr.avgUpdate 1 10).wellFormed = true ∧ (Instr.avgUpdate 1 1200).wellFormed = true :=
  ⟨inv_of_holds (by decide), by decide, by decide, by decide, by decide⟩

theorem witness_LowBitsDoNotChangeTheClass :
    (0x0001 : Word) ≠ 0 ∧ (0x0003 : Word) ≠ 0 ∧ (0x0001 : Word).toNat / 4 = (0x0003 : Word).toNat / 4 := by decide

/-- A window of two slots with its head at the end, and one of a single slot. -/
theorem witness_InsertShiftsTheLogicalWindow :
    ((⟨[10, 100], 1, 110⟩ : Window).slots.length = 2 ^ 1 ∧ (⟨[10, 100], 1, 110⟩ : Window).head < 2 ^ 1 ∧
      (⟨[10, 100], 1, 110⟩ : Window).slots[(1 : Nat)]? = some 100) ∧
    ((⟨[100], 0, 100⟩ : Window).slots.length = 2 ^ 0 ∧ (⟨[100], 0, 100⟩ : Window).head < 2 ^ 0 ∧
      (⟨[100], 0, 100⟩ : Window).slots[(0 : Nat)]? = some 100) := by decide

theorem witness_FilterReturnsTheMeanOfTheLastN :
    (State.resetWith blockA).params.avgEnabled = true ∧
    exec .avgInit (State.resetWith blockA) = .next (State.resetWith blockA).initWindows ∧
    ∀ x ∈ ([10, 1200] : List Decoded) ++ [50], 10 ≤ x.toNat ∧ x.toNat ≤ 1200 :=
  ⟨rfl, rfl, by decide⟩

theorem witness_WaitStatesCountDown :
    (({ reading blockA .selected 1 [idleInput] with dlyCnt := 1 } : State).Inv ∧
      (reading blockA .selected 1 [idleInput]).inputs.rst = false) ∧
    ({ started blockA [idleInput] with fsm := .setupInit, dlyCnt := 1 } : State).Inv ∧
    ({ sequencing blockA .saDesel 1 [idleInput] with dlyCnt := 2 } : State).Inv ∧
    ({ sequencing blockA .saAssert 0 [idleInput] with dlyCnt := 1 } : State).Inv ∧
    ({ sequencing blockA .saConv 1 [idleInput] with dlyCnt := 2 } : State).Inv :=
  ⟨⟨inv_of_holds (by decide), rfl⟩, inv_of_holds (by decide), inv_of_holds (by decide), inv_of_holds (by decide),
    inv_of_holds (by decide)⟩

theorem witness_StartAllStatesDriveTheLine :
    ((sequencing blockA .saDesel 1 [idleInput]).Inv ∧ (sequencing blockA .saDesel 1 [idleInput]).inputs.rst = false ∧
      (sequencing blockA .saDesel 1 [idleInput]).dlyCnt = 0) ∧
    ((sequencing blockA .saAssert 1 [idleInput]).Inv ∧ (sequencing blockA .saAssert 1 [idleInput]).inputs.rst = false ∧
      (sequencing blockA .saAssert 1 [idleInput]).dlyCnt = 0) :=
  ⟨⟨inv_of_holds (by decide), rfl, rfl⟩, inv_of_holds (by decide), rfl, rfl⟩

/-- Device 0 of two goes on; device 1 of two and device 0 of one complete. -/
theorem witness_StartAllMovesOnOrCompletes :
    ((sequencing blockA .saConv 0 [idleInput]).Inv ∧ (sequencing blockA .saConv 0 [idleInput]).inputs.rst = false ∧
      (sequencing blockA .saConv 0 [idleInput]).dlyCnt = 0 ∧ (0 : DevIdx).toNat + 1 < blockA.deviceCount.toNat) ∧
    ((sequencing blockA .saConv 1 [idleInput]).Inv ∧ ¬ (1 : DevIdx).toNat + 1 < blockA.deviceCount.toNat) ∧
    ((sequencing blockB .saConv 0 [idleInput]).Inv ∧ ¬ (0 : DevIdx).toNat + 1 < blockB.deviceCount.toNat) :=
  ⟨⟨inv_of_holds (by decide), rfl, rfl, by decide⟩, ⟨inv_of_holds (by decide), by decide⟩,
    inv_of_holds (by decide), by decide⟩

theorem witness_ReadStatesMoveTheBytes :
    ((reading blockA .selected 1 [idleInput]).Inv ∧ (reading blockA .selected 1 [idleInput]).inputs.rst = false ∧
      (reading blockA .selected 1 [idleInput]).dlyCnt = 0) ∧
    (reading blockA .latched 1 [idleInput]).Inv ∧
    ({ reading blockA .byteMsb 1 [idleInput] with xferDone := true } : State).Inv ∧
    ({ reading blockA .byteLsb 1 [idleInput] with xferDone := true } : State).Inv :=
  ⟨⟨inv_of_holds (by decide), rfl, rfl⟩, inv_of_holds (by decide), inv_of_holds (by decide), inv_of_holds (by decide)⟩

/-- No time-out; the last cycle that counts (18 of T = 20); the cycle that aborts (19). -/
theorem witness_TimeoutStepCountsAndAborts :
    (({ reading blockB .byteMsb 0 [idleInput] with xferActive := true } : State).Inv ∧ blockB.busTimeout = none) ∧
    (({ reading blockA .byteLsb 1 [idleInput] with xferActive := true, toCnt := 18 } : State).Inv ∧
      blockA.busTimeout = some 20 ∧ (reading blockA .byteLsb 1 [idleInput]).inputs.rst = false) ∧
    ({ reading blockA .byteLsb 1 [idleInput] with xferActive := true, toCnt := 19 } : State).Inv :=
  ⟨⟨inv_of_holds (by decide), rfl⟩, ⟨inv_of_holds (by decide), rfl, rfl⟩, inv_of_holds (by decide)⟩

/-- The four outcomes: time-out, LineFault, RangeFault(9), Valid(10) with averaging and without. -/
theorem witness_DeselectedReportsTheOutcome :
    ({ started blockA [idleInput] with fsm := .deselected, toFlag := true } : State).Inv ∧
    (({ started blockA [idleInput] with fsm := .deselected, sr := 0x0004 } : State).Inv ∧ classify 0x0004 = .lineFault) ∧
    (({ started blockA [idleInput] with fsm := .deselected, sr := 0x0048 } : State).Inv ∧
      classify 0x0048 = .rangeFault 9) ∧
    (({ started blockA [idleInput] with fsm := .deselected, sr := 0x0050 } : State).Inv ∧ classify 0x0050 = .valid 10) ∧
    ({ started blockB [idleInput] with fsm := .deselected, sr := 0x0050 } : State).Inv :=
  ⟨inv_of_holds (by decide), ⟨inv_of_holds (by decide), by decide⟩, ⟨inv_of_holds (by decide), by decide⟩,
    ⟨inv_of_holds (by decide), by decide⟩, inv_of_holds (by decide)⟩

theorem witness_PhaseIsWrittenOnlyByTheBootOrder :
    ∃ s t, s.Inv ∧ step s = .next t ∧ t.phase ≠ s.phase := by
  obtain ⟨t, ht, hp⟩ := exists_after (P := fun t => t.phase == .started)
    (s := sequencing blockA .saConv 1 [idleInput]) (by decide)
  exact ⟨_, t, inv_of_holds (by decide), ht, by rw [beq_iff_eq.1 hp]; decide⟩

theorem witness_OnlySetupAndValidReadsChangeWindows :
    ∃ s t, s.Inv ∧ step s = .next t ∧ t.windows ≠ s.windows := by
  obtain ⟨t, ht, hp⟩ := exists_after (P := fun t => t.windows != (started blockA []).windows)
    (s := { started blockA [idleInput] with fsm := .deselected, sr := 0x0050 }) (by decide)
  exact ⟨_, t, inv_of_holds (by decide), ht, bne_iff_ne.1 hp⟩

theorem witness_FaultEventsLeaveTheMachineGoing :
    ∃ s t, s.Inv ∧ step s = .next t ∧ t.faultValid = true := by
  obtain ⟨t, ht, hp⟩ := exists_after (P := State.faultValid)
    (s := { started blockA [idleInput] with fsm := .deselected, sr := 0x0028 }) (by decide)
  exact ⟨_, t, inv_of_holds (by decide), ht, hp⟩

/-- The three kinds in turn. -/
theorem witness_FaultCodeTellsTheKind :
    (∃ s t, s.Inv ∧ step s = .next t ∧ t.faultValid = true ∧ s.toFlag = true) ∧
    (∃ s t, s.Inv ∧ step s = .next t ∧ t.faultValid = true ∧ s.toFlag = false ∧ classify s.sr = .lineFault) ∧
    (∃ s t, s.Inv ∧ step s = .next t ∧ t.faultValid = true ∧ s.toFlag = false ∧
      classify s.sr = .rangeFault 8191) := by
  obtain ⟨t1, h1, p1⟩ := exists_after (P := State.faultValid)
    (s := { started blockA [idleInput] with fsm := .deselected, toFlag := true }) (by decide)
  obtain ⟨t2, h2, p2⟩ := exists_after (P := State.faultValid)
    (s := { started blockA [idleInput] with fsm := .deselected, sr := 0xFFFF }) (by decide)
  obtain ⟨t3, h3, p3⟩ := exists_after (P := State.faultValid)
    (s := { started blockA [idleInput] with fsm := .deselected, sr := 0xFFF8 }) (by decide)
  exact ⟨⟨_, t1, inv_of_holds (by decide), h1, p1, rfl⟩, ⟨_, t2, inv_of_holds (by decide), h2, p2, rfl, by decide⟩,
    ⟨_, t3, inv_of_holds (by decide), h3, p3, rfl, by decide⟩⟩

theorem witness_ReadResultsStayInTheirSet :
    ({ started blockA [idleInput] with fsm := .deselected, sr := 0x2580 } : State).Inv ∧
    (started blockA [idleInput]).inputs.rst = false :=
  ⟨inv_of_holds (by decide), rfl⟩

theorem witness_ResponseAndFaultCodeAreHeld :
    ∃ s t, s.inputs.rst = false ∧ step s = .next t ∧ t.rspValid = false ∧ t.faultValid = false := by
  obtain ⟨t, ht, hp⟩ := exists_after (P := fun t => !t.rspValid && !t.faultValid)
    (s := { started blockA [idleInput] with rspValid := true, faultValid := true, rspData := 5, faultCode := 5 })
    (by decide)
  exact ⟨_, t, rfl, ht, by simpa using hp⟩

/-- The acceptance cycle, and each of the three states. -/
theorem witness_StartAllLeavesTheReaderAlone :
    (∃ s t, s.Inv ∧ s.inputs.rst = false ∧ step s = .next t ∧ s.accepts 0x20) ∧
    (∃ s t, s.Inv ∧ s.inputs.rst = false ∧ step s = .next t ∧ s.fsm = .saDesel) ∧
    (∃ s t, s.Inv ∧ s.inputs.rst = false ∧ step s = .next t ∧ s.fsm = .saAssert) ∧
    (∃ s t, s.Inv ∧ s.inputs.rst = false ∧ step s = .next t ∧ s.fsm = .saConv) := by
  obtain ⟨t0, h0, -⟩ := exists_after (P := fun _ => true) (s := started blockA [cmdInput 0x20]) (by decide)
  obtain ⟨t1, h1, -⟩ := exists_after (P := fun _ => true) (s := sequencing blockA .saDesel 1 [idleInput]) (by decide)
  obtain ⟨t2, h2, -⟩ := exists_after (P := fun _ => true) (s := sequencing blockA .saAssert 1 [idleInput]) (by decide)
  obtain ⟨t3, h3, -⟩ := exists_after (P := fun _ => true) (s := sequencing blockA .saConv 1 [idleInput]) (by decide)
  exact ⟨⟨_, t0, inv_of_holds (by decide), rfl, h0, rfl, rfl, rfl, rfl⟩, ⟨_, t1, inv_of_holds (by decide), rfl, h1, rfl⟩,
    ⟨_, t2, inv_of_holds (by decide), rfl, h2, rfl⟩, ⟨_, t3, inv_of_holds (by decide), rfl, h3, rfl⟩⟩

theorem witness_ParametersAndMosiAreConstant : ∃ s t, step s = .next t ∧ s.mosi = false := by
  obtain ⟨t, ht, -⟩ := exists_after (P := fun _ => true) (s := started blockA [cmdInput 0x20]) (by decide)
  exact ⟨_, t, ht, rfl⟩

/-- With averaging and without. -/
theorem witness_SetupCompletesOnTime :
    ((started blockA (thenFor 0x10 4 idleInput)).Inv ∧ (started blockA (thenFor 0x10 4 idleInput)).accepts 0x10 ∧
      (started blockA (thenFor 0x10 4 idleInput)).noReset (blockA.cSetup + 1)) ∧
    ((started blockB (thenFor 0x10 4 idleInput)).Inv ∧ (started blockB (thenFor 0x10 4 idleInput)).accepts 0x10 ∧
      (started blockB (thenFor 0x10 4 idleInput)).noReset (blockB.cSetup + 1)) :=
  ⟨⟨inv_of_holds (by decide), ⟨rfl, rfl, rfl, rfl⟩, by unfold State.noReset; decide⟩,
    inv_of_holds (by decide), ⟨rfl, rfl, rfl, rfl⟩, by unfold State.noReset; decide⟩

/-- For StartAllCompletesOnTime, SensorsConvertBeforeStartAllAnswers and, at every c up to 13, StartAllAssertsEachLineInTurn. -/
theorem witness_StartAllRuns :
    (started blockA (thenFor 0x20 14 idleInput)).Inv ∧ (started blockA (thenFor 0x20 14 idleInput)).accepts 0x20 ∧
    (started blockA (thenFor 0x20 14 idleInput)).phase ≠ .unconfigured ∧
    (started blockA (thenFor 0x20 14 idleInput)).noReset (blockA.deviceCount.toNat * startAllSpan blockA + 1) ∧
    blockA.deviceCount.toNat * startAllSpan blockA + 1 = 13 :=
  ⟨inv_of_holds (by decide), ⟨rfl, rfl, rfl, rfl⟩, by decide, by unfold State.noReset; decide, by decide⟩

/-- Bits on `miso`, two ready cycles each (SCK_DIV = 1). -/
def shiftIn (bits : List Bool) : List Inputs :=
  bits.flatMap fun b => List.replicate 2 { idleInput with miso := b }

/-- V-SR-1: the bits 1,0,1,1,0,0,1,0, after k cycles without `bus_ready`. -/
def byteBits (k : Nat) : List Inputs :=
  List.replicate k stallInput ++ shiftIn [true, false, true, true, false, false, true, false]

/-- V-SR-1's run, without a stalled cycle and with as many as T = 20 allows, and the byte its bits assemble to. -/
theorem witness_ByteShiftsInEightBits :
    (({ reading blockA .byteMsb 1 (byteBits 0) with xferActive := true } : State).Inv ∧
      0 + 16 * blockA.sckDiv < 20 ∧ (reading blockA .byteMsb 1 (byteBits 0)).noReset 16 ∧
      (reading blockA .byteMsb 1 (byteBits 0)).byteFills 0 16 ∧
      (reading blockA .byteMsb 1 (byteBits 0)).byteTaken 0 16 = 0xB2) ∧
    (({ reading blockA .byteMsb 1 (byteBits 3) with xferActive := true } : State).Inv ∧
      blockA.busTimeout = some 20 ∧ (reading blockA .byteMsb 1 (byteBits 3)).noReset 19 ∧
      (reading blockA .byteMsb 1 (byteBits 3)).byteFills 0 19 ∧
      (reading blockA .byteMsb 1 (byteBits 3)).byteTaken 0 19 = 0xB2) :=
  ⟨⟨inv_of_holds (by decide), by decide, by unfold State.noReset; decide, by unfold State.byteFills; decide, by decide⟩,
    inv_of_holds (by decide), rfl, by unfold State.noReset; decide, by unfold State.byteFills; decide, by decide⟩

/-- The inputs of a READ of device 1 whose word is w, for blockA (C_LATCH = 2, SCK_DIV = 1), with k and l cycles without `bus_ready` before the bits of its bytes; T1's cycles for k = l = 0. -/
def wordInputs (w : Word) (k l : Nat) : List Inputs :=
  thenFor 0x31 3 idleInput ++ List.replicate k stallInput ++ shiftIn ((List.range 8).map fun j => w.getLsbD (15 - j)) ++
  [idleInput] ++ List.replicate l stallInput ++ shiftIn ((List.range 8).map fun j => w.getLsbD (7 - j)) ++
  List.replicate 4 idleInput

/-- For ReadAnswersAsItsTransaction without a stalled cycle, and for ReadHoldsItsLineAndTheLock at every c up to 39: its first clause at c = 1 and c = 37, its second at c = 0, 38 and 39. -/
theorem witness_ReadRuns :
    ((started blockA (wordInputs 0x0190 0 0)).Inv ∧ (started blockA (wordInputs 0x0190 0 0)).phase = .started ∧
      (started blockA (wordInputs 0x0190 0 0)).accepts (wordC8 0x3 1) ∧
      (started blockA (wordInputs 0x0190 0 0)).noReset (blockA.cLatch + 5 + 32 * blockA.sckDiv) ∧
      (∀ j < blockA.cLatch + 5 + 32 * blockA.sckDiv,
        ((started blockA (wordInputs 0x0190 0 0)).inputAt j).busReady = true) ∧
      (started blockA (wordInputs 0x0190 0 0)).byteFills (msbStart blockA) 16 ∧
      (started blockA (wordInputs 0x0190 0 0)).byteFills (lsbStart blockA 0) 16) ∧
    blockA.cLatch + 5 + 32 * blockA.sckDiv = 39 ∧ blockA.cLatch + 3 + 32 * blockA.sckDiv = 37 :=
  ⟨⟨inv_of_holds (by decide), rfl, ⟨rfl, rfl, rfl, rfl⟩, by unfold State.noReset; decide, by decide,
    by unfold State.byteFills; decide, by unfold State.byteFills; decide⟩, by decide, by decide⟩

/-- For ReadAnswersAsItsTransaction with k = 3 (the most T = 20 allows) and l = 2 stalled cycles. -/
theorem witness_ReadAnswersAsItsTransaction :
    (started blockA (wordInputs 0x0190 3 2)).Inv ∧ (started blockA (wordInputs 0x0190 3 2)).accepts (wordC8 0x3 1) ∧
    blockA.busTimeout = some 20 ∧ 16 * blockA.sckDiv + 3 < 20 ∧
    (started blockA (wordInputs 0x0190 3 2)).noReset (blockA.cLatch + 5 + 32 * blockA.sckDiv + 3 + 2) ∧
    (started blockA (wordInputs 0x0190 3 2)).byteFills (msbStart blockA) (16 * blockA.sckDiv + 3) ∧
    (started blockA (wordInputs 0x0190 3 2)).byteFills (lsbStart blockA 3) (16 * blockA.sckDiv + 2) :=
  ⟨inv_of_holds (by decide), ⟨rfl, rfl, rfl, rfl⟩, rfl, by decide, by unfold State.noReset; decide,
    by unfold State.byteFills; decide, by unfold State.byteFills; decide⟩

/-- Its three classes, on S1, S2 and S3's words. -/
theorem witness_ReadRuns_words :
    classify ((started blockA (wordInputs 0x0190 3 2)).wordTaken 3 2) = .valid 50 ∧
    classify ((started blockA (wordInputs 0x0004 3 2)).wordTaken 3 2) = .lineFault ∧
    classify ((started blockA (wordInputs 0x0028 0 0)).wordTaken 0 0) = .rangeFault 5 ∧
    (started blockA (wordInputs 0x0190 0 0)).rawWord = 0x0190 := by decide

/-- For ReadTimesOutInItsFirstByte (V-SR-6, and 15 ready cycles in the first 19) and EveryReadEndsWithinTheTimeout. -/
theorem witness_ReadTimeouts :
    (started blockA (thenFor 0x31 50 stallInput)).Inv ∧ (started blockA (thenFor 0x31 50 stallInput)).phase = .started ∧
    (started blockA (thenFor 0x31 50 stallInput)).accepts (wordC8 0x3 1) ∧ blockA.busTimeout = some 20 ∧
    (started blockA (thenFor 0x31 50 stallInput)).noReset (blockA.cLatch + 3 + 2 * 20) ∧
    ((started blockA (thenFor 0x31 50 stallInput)).readyCycles (msbStart blockA) 19).length < 16 * blockA.sckDiv ∧
    ((started blockA (wordInputs 0 4 0)).readyCycles (msbStart blockA) 19).length = 16 * blockA.sckDiv - 1 :=
  ⟨inv_of_holds (by decide), rfl, ⟨rfl, rfl, rfl, rfl⟩, rfl, by unfold State.noReset; decide, by decide, by decide⟩

/-- V-SR-7: the MSB byte completes with the bus ready, and the bus is not ready after it; and the same with k = 3. -/
theorem witness_ReadTimesOutInItsSecondByte :
    ((started blockA (wordInputs 0x0190 0 30)).Inv ∧ (started blockA (wordInputs 0x0190 0 30)).phase = .started ∧
      (started blockA (wordInputs 0x0190 0 30)).accepts (wordC8 0x3 1) ∧ blockA.busTimeout = some 20 ∧
      (started blockA (wordInputs 0x0190 0 30)).noReset (blockA.cLatch + 4 + 16 * blockA.sckDiv + 0 + 20) ∧
      (started blockA (wordInputs 0x0190 0 30)).byteFills (msbStart blockA) 16 ∧
      ((started blockA (wordInputs 0x0190 0 30)).readyCycles (lsbStart blockA 0) 19).length < 16 * blockA.sckDiv) ∧
    (16 * blockA.sckDiv + 3 < 20 ∧ (started blockA (wordInputs 0x0190 3 4)).byteFills (msbStart blockA) 19 ∧
      ((started blockA (wordInputs 0x0190 3 4)).readyCycles (lsbStart blockA 3) 19).length = 16 * blockA.sckDiv - 1) :=
  ⟨⟨inv_of_holds (by decide), rfl, ⟨rfl, rfl, rfl, rfl⟩, rfl, by unfold State.noReset; decide,
    by unfold State.byteFills; decide, by decide⟩, by decide, by unfold State.byteFills; decide, by decide⟩

theorem witness_ReadEndsOnceTheBusWasReady :
    (started blockB (thenFor 0x30 50 idleInput)).Inv ∧ (started blockB (thenFor 0x30 50 idleInput)).phase = .started ∧
    (started blockB (thenFor 0x30 50 idleInput)).accepts (wordC8 0x3 0) ∧ blockB.busTimeout = none ∧
    (started blockB (thenFor 0x30 50 idleInput)).noReset (blockB.cLatch + 2 + 33 + 2) ∧
    32 * blockB.sckDiv + 1 ≤ (List.range 33).countP
      (fun j => ((started blockB (thenFor 0x30 50 idleInput)).inputAt (blockB.cLatch + 2 + j)).busReady) :=
  ⟨inv_of_holds (by decide), rfl, ⟨rfl, rfl, rfl, rfl⟩, rfl, by unfold State.noReset; decide, by decide⟩

/-- V-SR-9, in the LSB byte; and with a time-out of 20, up to its last cycle that counts. -/
theorem witness_StuckBusHangsTheRead :
    (({ reading blockB .byteLsb 0 (List.replicate 9 stallInput) with xferActive := true } : State).Inv ∧
      blockB.busTimeout = none ∧ (reading blockB .byteLsb 0 (List.replicate 9 stallInput)).noReset 9 ∧
      (∀ j < 9, ((reading blockB .byteLsb 0 (List.replicate 9 stallInput)).inputAt j).busReady = false)) ∧
    (({ reading blockA .byteMsb 1 (List.replicate 9 stallInput) with xferActive := true, toCnt := 10 } : State).Inv ∧
      blockA.busTimeout = some 20 ∧ 10 + 9 < 20) :=
  ⟨⟨inv_of_holds (by decide), rfl, by unfold State.noReset; decide, by decide⟩, inv_of_holds (by decide), rfl, by decide⟩

/-- A byte in the state the arguments give, in the cycle i. -/
def shifting (p : Params) (i : Inputs) (sck : Bool) (bit : BitVec 3) (div tc : Nat) : State :=
  { reading p .byteMsb 0 [i] with xferActive := true, sck := sck, bitCnt := bit, divCnt := div, toCnt := tc }

/-- The six forms of a cycle, in the middle of a byte, with a time-out of 40 cycles and without one: stalled, counting, sampling, counting a bit, completing; and the cycle that aborts. -/
theorem witness_ByteEngineStepsInEveryCycle :
    ((shifting { blockA with sckDiv := 2, busTimeout := some 40 } stallInput true 3 1 38).Inv ∧
      stallInput.rst = false ∧ 38 ≠ 40 - 1) ∧
    (shifting { blockB with sckDiv := 2 } stallInput true 3 1 0).Inv ∧
    (shifting { blockB with sckDiv := 2 } idleInput false 3 0 0).Inv ∧
    (shifting { blockA with sckDiv := 2, busTimeout := some 40 } idleInput false 3 1 17).Inv ∧
    (shifting { blockA with sckDiv := 2, busTimeout := some 40 } idleInput true 6 1 27).Inv ∧
    (shifting { blockB with sckDiv := 2 } idleInput true 7 1 0).Inv ∧
    (shifting { blockA with sckDiv := 2, busTimeout := some 40 } idleInput true 7 1 39).Inv :=
  ⟨⟨inv_of_holds (by decide), rfl, by decide⟩, inv_of_holds (by decide), inv_of_holds (by decide),
    inv_of_holds (by decide), inv_of_holds (by decide), inv_of_holds (by decide), inv_of_holds (by decide)⟩

/-- R105: where the abort meets the falling edge that would complete the byte, the abort's values win. -/
theorem test_abort_wins :
    (after (shifting { blockA with sckDiv := 2, busTimeout := some 40 } idleInput true 7 1 39)).map
      (fun t => (t.xferDone, t.bitCnt, t.toFlag, t.fsm)) = some (false, 0, true, .deselected) := by decide

end Sys2Proof.Tests
end

section
/-! PROOFS of 00_scope: the wait states. -/

namespace Sys2Proof.Machine

/-- A cycle of SETUP_INIT before its last only counts and writes windows (R140). -/
theorem setupInit_on {s : State} (h : s.dlyCnt ≠ 0) :
    s.setupInit =
      { s with dlyCnt := s.dlyCnt - 1, windows := partInitWindows s.params s.cycle 0 s.windows } := by
  simp [State.setupInit, h]

/-- A cycle that a wait state, with the byte engine at rest, does not leave: the pulses fall and the count goes down (R23). -/
theorem beginCycle_wait_on {leave : State → State} {s : State} (hx : s.xferActive = false) (hd : s.dlyCnt ≠ 0) :
    s.beginCycle.wait leave = { s.clearPulses with dlyCnt := s.dlyCnt - 1 } := by
  rw [beginCycle_rest hx]; exact wait_on hd

/-- All that a cycle of a wait state does before its last, in any of the five (R23, R97, R98, R99, R112, R140): only SETUP_INIT writes windows. -/
theorem step_wait_on {s : State} (hi : s.Inv) (hr : s.inputs.rst = false) (hd : s.dlyCnt ≠ 0)
    (hf : s.fsm = .selected ∨ s.fsm = .setupInit ∨ s.fsm = .saDesel ∨ s.fsm = .saAssert ∨ s.fsm = .saConv) :
    ∃ ws, (s.fsm ≠ .setupInit → ws = s.windows) ∧
      step s = .next (s.endCycle { s.clearPulses with dlyCnt := s.dlyCnt - 1, windows := ws }) := by
  have hx : s.xferActive = false :=
    (hi.atRest (by rcases hf with h | h | h | h | h <;> simp [h, Fsm.inByte])).1
  rcases hf with h | h | h | h | h
  · exact ⟨s.windows, fun _ => rfl, by rw [step_selected hr h, State.selected, beginCycle_wait_on hx hd]; rfl⟩
  · exact ⟨_, fun hn => absurd h hn, by rw [step_setupInit hr h, beginCycle_rest hx, setupInit_on (s := s.clearPulses) hd]; rfl⟩
  · exact ⟨s.windows, fun _ => rfl, by rw [step_saDesel hr h, State.saDesel, beginCycle_wait_on hx hd]; rfl⟩
  · exact ⟨s.windows, fun _ => rfl, by rw [step_saAssert hr h, State.saAssert, beginCycle_wait_on hx hd]; rfl⟩
  · exact ⟨s.windows, fun _ => rfl, by rw [step_saConv hr h, State.saConv, beginCycle_wait_on hx hd]; rfl⟩

/-- Settles O34: the whole next state is the one of `step_wait_on`, and each field is read off it. -/
theorem waitStatesCountDown : Obligations.WaitStatesCountDown := by
  intro s hi hr hd hf
  obtain ⟨ws, -, hstep⟩ := step_wait_on hi hr hd hf
  exact ⟨_, hstep, by simp⟩

end Sys2Proof.Machine
end

section
/-! PROOFS of 10_state: the invariant, and what one step may write. -/

namespace Sys2Proof.Machine

/-! ## Reset -/

theorem resetWith_inv {p : Params} (h : p.wf = true) : (State.resetWith p).Inv := by
  obtain ⟨-, -, -, -, -, -, htimeout, -, -⟩ := Params.of_wf h
  constructor <;> simp [State.resetWith, h, State.linesOfFsm, allOnes, Fsm.inTransaction, Fsm.inByte, Fsm.inStartAll]
  · intro ha
    simp [blankWindows, ha, Window.fits, Params.windowSize]
  · intro ha
    simp [blankWindows, ha]
  · intro t ht
    exact Nat.zero_lt_of_lt (htimeout t ht)

/-- A reset edge restores the invariant: the window storage, which it leaves alone, keeps its shape, and UNCONFIGURED asks for no more (R167). -/
theorem State.Inv.resetEdge {s : State} (hi : s.Inv) : s.resetEdge.Inv :=
  { resetWith_inv hi.params with
    sensors := hi.sensors
    windows := hi.windows
    noWindows := hi.noWindows
    sound := fun h => absurd rfl h
    result := hi.result }

/-! ## What surrounds the sequencer -/

theorem State.Inv.endCycle {s u : State} (hu : u.Inv) : (s.endCycle u).Inv :=
  { hu with
    sensors := by simpa using hu.sensors
    result := rfl }

theorem State.Inv.clearPulses {s : State} (hi : s.Inv) : s.clearPulses.Inv :=
  { hi with pulses := fun h => by cases h }

theorem State.Inv.byteEngine {s : State} (hi : s.Inv) (r m : Bool) : (s.byteEngine r m).Inv := by
  by_cases hh : s.xferActive = false ∨ r = false
  · rwa [byteEngine_holds hh]
  obtain ⟨ha, hr⟩ : s.xferActive = true ∧ r = true := by simpa using hh
  have hb : s.fsm.inByte = true := by
    by_contra hb
    simp [(hi.atRest (by simpa using hb)).1] at ha
  subst hr
  by_cases hd : s.divCnt = s.params.sckDiv - 1
  · cases hk : s.sck
    · rw [byteEngine_rises ha hd hk]
      exact { hi with divCnt := Nat.zero_le _, sck := fun h => by simp [ha] at h }
    · by_cases hc : s.bitCnt = 7
      · rw [byteEngine_completes ha hd hk hc]
        exact
          { hi with
            divCnt := Nat.zero_le _
            sck := fun _ => rfl
            atRest := fun h => by cases hb.symm.trans h
            inByte := fun _ => rfl }
      · rw [byteEngine_falls ha hd hk hc]
        exact { hi with divCnt := Nat.zero_le _, sck := fun _ => rfl }
  · rw [byteEngine_counts ha hd]
    have hle := hi.divCnt
    exact { hi with divCnt := by show s.divCnt + 1 ≤ s.params.sckDiv - 1; omega }

theorem State.Inv.beginCycle {s : State} (hi : s.Inv) : s.beginCycle.Inv := hi.clearPulses.byteEngine _ _

theorem State.Inv.respond {s : State} (hi : s.Inv) (hf : s.faultValid = false) (st : Status) (data : Word) :
    (s.respond st data).Inv :=
  { hi with
    status := by show st.code ≠ 0b11; cases st <;> decide
    pulses := fun h => by simp [hf] at h }

theorem State.Inv.takeFault {s : State} (hi : s.Inv) (code sentinel : Word) : (s.takeFault code sentinel).Inv :=
  { hi with
    status := by simp [Status.code]
    pulses := fun _ => ⟨rfl, rfl⟩ }

/-! ## From one state of the sequencer to the next -/

/-- A waiting cycle before the last only counts down (R23). -/
theorem State.Inv.wait {s : State} {leave : State → State} (hi : s.Inv) (hl : (leave s).Inv) : (s.wait leave).Inv := by
  unfold State.wait
  split
  · exact hl
  · exact { hi with dlyCnt := (Nat.sub_le _ _).trans hi.dlyCnt }

/-- A core whose byte engine and time-out flag rest may enter any state that waits for no byte, with the lines and the lock that go with it, where the phase allows it. -/
theorem State.Inv.enter {s : State} (hi : s.Inv) (hb : s.fsm.inByte = false) (hd : s.fsm ≠ .deselected) (f : Fsm)
    (dev : DevIdx) {n : Nat} {lines : List Bool} {lock : Bool} (hfb : f.inByte = false) (hn : n ≤ s.params.maxDelay)
    (hl : lines = if f.inTransaction || f == .saAssert then linesWith s.params dev else allOnes s.params)
    (hk : lock = f.inTransaction) (hsetup : s.fsm = .setupInit → f = .setupInit)
    (hread : f.inTransaction = true ∨ f = .deselected → s.phase = .started)
    (hstart : f.inStartAll = true → s.phase ≠ .unconfigured ∧ dev.toNat < s.params.deviceCount.toNat) :
    { s with fsm := f, curDev := dev, dlyCnt := n, csN := lines, busLock := lock : State }.Inv :=
  { hi with
    sound := fun hp hf => hi.sound hp (mt hsetup hf)
    dlyCnt := hn
    toFlag := fun h => absurd (hi.toFlag h).1 hd
    lines := hl
    busLock := hk
    atRest := fun _ => hi.atRest hb
    inByte := fun h => by simp [hfb] at h
    readPhase := hread
    startPhase := fun h => (hstart h).1
    startDev := fun h => (hstart h).2 }

/-! ## The states of the sequencer -/

theorem State.Inv.csN_rest {s : State} (hi : s.Inv) (ht : s.fsm.inTransaction = false) (hf : s.fsm ≠ .saAssert) :
    s.csN = allOnes s.params := by
  simp [hi.lines, State.linesOfFsm, ht, hf]

theorem State.Inv.csN_asserted {s : State} (hi : s.Inv) (h : s.fsm.inTransaction = true ∨ s.fsm = .saAssert) :
    s.csN = linesWith s.params s.curDev := by
  rcases h with h | h <;> simp [hi.lines, State.linesOfFsm, h]

theorem State.Inv.acceptSetup {s : State} (hi : s.Inv) (hf : s.fsm = .idle) :
    (s.deselectAll.enterWait s.params.cSetup .setupInit).Inv :=
  have ⟨_, _, _, _, hn⟩ := Params.delays_le s.params
  hi.enter (hf ▸ rfl) (by simp [hf]) .setupInit s.curDev rfl hn rfl
    (hi.busLock.trans (hf ▸ rfl)) (fun _ => rfl) (by simp [Fsm.inTransaction]) (by simp [Fsm.inStartAll])

theorem State.Inv.acceptStartAll {s : State} (hi : s.Inv) (hf : s.fsm = .idle) (hp : s.phase ≠ .unconfigured) :
    (({ s with curDev := 0 }.selectLine 0 false).enterWait s.params.cSettle .saDesel).Inv :=
  have ⟨hn, _⟩ := Params.delays_le s.params
  hi.enter (hf ▸ rfl) (by simp [hf]) .saDesel 0 rfl hn
    (by rw [hi.csN_rest (hf ▸ rfl) (by simp [hf])]; exact driveLine_rest _ _)
    (hi.busLock.trans (hf ▸ rfl)) (by simp [hf]) (by simp [Fsm.inTransaction])
    fun _ => ⟨hp, DeviceCount.toNat_pos _⟩

theorem State.Inv.startRead {s : State} (hi : s.Inv) (hf : s.fsm = .idle) (hp : s.phase = .started) (dev : DevIdx) :
    (s.startRead dev).Inv :=
  have hb : s.fsm.inByte = false := hf ▸ rfl
  have ⟨_, _, _, hn, _⟩ := Params.delays_le s.params
  { hi.enter hb (by simp [hf]) .selected dev rfl hn rfl rfl (by simp [hf])
      (fun _ => hp) (by simp [Fsm.inStartAll]) with
    lines := by
      show driveLine _ _ _ s.csN = _
      rw [hi.csN_rest (hf ▸ rfl) (by simp [hf])]
      exact driveLine_assert _ _
    atRest := fun _ => ⟨(hi.atRest hb).1, rfl⟩
    inByte := fun h => by cases h }

theorem State.Inv.selected {s : State} (hi : s.Inv) (hf : s.fsm = .selected) : s.selected.Inv :=
  have ht : s.fsm.inTransaction = true := hf ▸ rfl
  hi.wait <| hi.enter (hf ▸ rfl) (by simp [hf]) .latched s.curDev rfl hi.dlyCnt
    (hi.csN_asserted (.inl ht)) (hi.busLock.trans ht) (by simp [hf]) (fun _ => hi.readPhase (.inl ht))
    (by simp [Fsm.inStartAll])

/-- A byte that starts in a transaction whose last byte, if any, is taken (R104, R113, R114): the time-out counts from 0. -/
theorem State.Inv.awaitByte {s : State} (hi : s.Inv) (ht : s.fsm.inTransaction = true) {f : Fsm}
    (hf : f = .byteMsb ∨ f = .byteLsb) (w : Word) {done : Bool} (hdone : done = false) :
    { s.startByte with sr := w, xferDone := done, toCnt := 0, fsm := f : State }.Inv := by
  have hp : s.phase = .started := hi.readPhase (.inl ht)
  have hlines : s.csN = linesWith s.params s.curDev := hi.csN_asserted (.inl ht)
  have hflag (h : s.toFlag = true) : s.fsm = .deselected := (hi.toFlag h).1
  have hlock : s.busLock = true := hi.busLock.trans ht
  have hsetup (h : s.fsm = .setupInit) : False := by simp [h, Fsm.inTransaction] at ht
  obtain ⟨-, -, -, -, -, -, htimeout, -, -⟩ := Params.of_wf hi.params
  exact
    { hi with
      sound := fun hp _ => hi.sound hp hsetup
      divCnt := Nat.zero_le _
      toCnt := fun t h => Nat.zero_lt_of_lt (htimeout t h)
      noTimeout := fun _ => rfl
      toFlag := fun h => by simp [hflag h, Fsm.inTransaction] at ht
      lines := by rcases hf with rfl | rfl <;> exact hlines
      busLock := by rcases hf with rfl | rfl <;> exact hlock
      atRest := fun h => by rcases hf with rfl | rfl <;> cases h
      inByte := fun _ => hdone
      sck := fun h => by cases h
      readPhase := fun _ => hp
      startPhase := fun h => by rcases hf with rfl | rfl <;> cases h
      startDev := fun h => by rcases hf with rfl | rfl <;> cases h }

theorem State.Inv.latched {s : State} (hi : s.Inv) (hf : s.fsm = .latched) : s.latched.Inv :=
  hi.awaitByte (hf ▸ rfl) (.inl rfl) s.sr (hi.atRest (hf ▸ rfl)).2

theorem State.Inv.byteMsb {s : State} (hi : s.Inv) (hf : s.fsm = .byteMsb) (byte : Byte) : (s.byteMsb true byte).Inv :=
  hi.awaitByte (hf ▸ rfl) (.inr rfl) _ rfl

/-- The end of a transaction whose engine rests, with the time-out flag of an abort or without (R115, R116). -/
theorem State.Inv.endTransaction {s : State} (hi : s.Inv) (ht : s.fsm.inTransaction = true) (w : Word) (b : BitVec 3)
    {div : Nat} {active clk flag : Bool} (ha : active = false) (hk : clk = false) (hdiv : div ≤ s.params.sckDiv - 1)
    (hflag : flag = true → s.params.busTimeout ≠ none) :
    { s with
      sr := w, bitCnt := b, divCnt := div, xferActive := active, xferDone := false, sck := clk,
      toFlag := flag : State }.endTransaction.Inv :=
  have hp : s.phase = .started := hi.readPhase (.inl ht)
  { hi with
    sound := fun hp _ => hi.sound hp fun h => by simp [h, Fsm.inTransaction] at ht
    divCnt := hdiv
    toFlag := fun h => ⟨rfl, hflag h⟩
    lines := by
      show driveLine _ _ _ s.csN = _
      rw [hi.csN_asserted (.inl ht)]
      exact driveLine_release _ _
    busLock := rfl
    atRest := fun _ => ⟨ha, rfl⟩
    inByte := fun h => by cases h
    sck := fun _ => hk
    readPhase := fun _ => hp
    startPhase := fun h => by cases h
    startDev := fun h => by cases h }

theorem Fsm.inTransaction_of_inByte {f : Fsm} (h : f.inByte = true) : f.inTransaction = true := by
  cases f <;> simp_all [Fsm.inByte, Fsm.inTransaction]

theorem State.Inv.timeoutStep {s : State} (hi : s.Inv) (hf : s.fsm.inByte = true) : s.timeoutStep.Inv := by
  cases hT : s.params.busTimeout with
  | none => rwa [timeoutStep_unbounded hT]
  | some n =>
    by_cases hc : s.toCnt < n - 1
    · rw [timeoutStep_counts hT hc]
      exact
        { hi with
          toCnt := fun t ht => by
            obtain rfl : n = t := Option.some.inj (hT.symm.trans ht)
            show s.toCnt + 1 < n
            omega
          noTimeout := fun h => by cases hT.symm.trans h }
    · rw [timeoutStep_aborts hT hc]
      exact hi.endTransaction (Fsm.inTransaction_of_inByte hf) s.sr 0 rfl rfl (Nat.zero_le _) fun _ => by simp [hT]

theorem State.Inv.byteLsb {s : State} (hi : s.Inv) (hf : s.fsm = .byteLsb) (hx : s.xferActive = false) (byte : Byte) :
    (s.byteLsb true byte).Inv :=
  hi.endTransaction (hf ▸ rfl) _ s.bitCnt hx (hi.sck hx) hi.divCnt fun h => (hi.toFlag h).2

/-- The core returns to IDLE from a state whose lines are at rest, in a phase that the windows are sound for. -/
theorem State.Inv.toIdle {s : State} (hi : s.Inv) (hb : s.fsm.inByte = false) (ht : s.fsm.inTransaction = false)
    (ha : s.fsm ≠ .saAssert) {ph : Phase} (hs : ph ≠ .unconfigured → ∀ w ∈ s.windows, w.sound) {flag : Bool}
    (hflag : flag = false) : { s with phase := ph, toFlag := flag, fsm := .idle : State }.Inv :=
  { hi with
    sound := fun hp _ => hs hp
    toFlag := fun h => by cases hflag.symm.trans h
    lines := hi.csN_rest ht ha
    busLock := hi.busLock.trans ht
    atRest := fun _ => hi.atRest hb
    inByte := fun h => by cases h
    readPhase := fun h => by rcases h with h | h <;> cases h
    startPhase := fun h => by cases h
    startDev := fun h => by cases h }

theorem State.Inv.toFlag_low {s : State} (hi : s.Inv) (hf : s.fsm ≠ .deselected) : s.toFlag = false := by
  by_contra h
  exact hf (hi.toFlag (by simpa using h)).1

/-! ### SETUP_INIT -/

theorem State.Inv.initWindows_sound {s : State} (hi : s.Inv) : ∀ w ∈ s.initWindows.windows, w.sound := by
  intro w hw
  cases ha : s.params.avgEnabled
  · simp [State.initWindows, ha, hi.noWindows ha] at hw
  · simp only [State.initWindows, ha, if_true] at hw
    rw [List.eq_of_mem_replicate hw]
    exact initWindow_sound _

theorem State.Inv.initWindows {s : State} (hi : s.Inv) : s.initWindows.Inv :=
  { hi with
    windows := fun ha => by
      have ha : s.params.avgEnabled = true := ha
      simp only [State.initWindows, ha, if_true, List.length_replicate, true_and]
      intro w hw
      rw [List.eq_of_mem_replicate hw]
      exact initWindow_fits _
    noWindows := fun ha => by
      have ha : s.params.avgEnabled = false := ha
      simp [State.initWindows, ha, hi.noWindows ha]
    sound := fun _ _ => hi.initWindows_sound }

theorem State.Inv.finishSetup {s : State} (hi : s.Inv) (hf : s.fsm = .setupInit) (hv : s.faultValid = false) :
    s.finishSetup.Inv :=
  State.Inv.respond
    (hi.initWindows.toIdle (hf ▸ rfl) (hf ▸ rfl) (by simp [hf])
      (fun _ => hi.initWindows_sound) (hi.toFlag_low (by simp [hf])))
    hv .done 0

/-- The cycles of SETUP_INIT keep the shape of the windows; their contents need not be sound before its end (R140). -/
theorem State.Inv.setupInit {s : State} (hi : s.Inv) (hf : s.fsm = .setupInit) (hv : s.faultValid = false) :
    s.setupInit.Inv := by
  by_cases hd : s.dlyCnt = 0
  · simpa [State.setupInit, hd] using hi.finishSetup hf hv
  · rw [setupInit_on hd]
    exact
      { hi with
        dlyCnt := (Nat.sub_le _ _).trans hi.dlyCnt
        windows := fun ha => by
          obtain ⟨hlen, hfits⟩ := partInitWindows_fits (n := s.cycle) (d := 0) (hi.windows ha).2
          exact ⟨hlen.trans (hi.windows ha).1, hfits⟩
        noWindows := fun ha => by simp [hi.noWindows ha, partInitWindows]
        sound := fun _ h => absurd hf h }

/-! ### START_ALL -/

theorem State.Inv.saDesel {s : State} (hi : s.Inv) (hf : s.fsm = .saDesel) : s.saDesel.Inv :=
  have hs : s.fsm.inStartAll = true := hf ▸ rfl
  have ⟨_, hn, _⟩ := Params.delays_le s.params
  hi.wait <| hi.enter (hf ▸ rfl) (by simp [hf]) .saAssert s.curDev rfl hn
    (by rw [selectLine_csN, hi.csN_rest (hf ▸ rfl) (by simp [hf])]; exact driveLine_assert _ _)
    (hi.busLock.trans (hf ▸ rfl)) (by simp [hf]) (by simp [Fsm.inTransaction])
    fun _ => ⟨hi.startPhase hs, hi.startDev hs⟩

theorem State.Inv.saAssert {s : State} (hi : s.Inv) (hf : s.fsm = .saAssert) : s.saAssert.Inv :=
  have hs : s.fsm.inStartAll = true := hf ▸ rfl
  have ⟨_, _, hn, _⟩ := Params.delays_le s.params
  hi.wait <| hi.enter (hf ▸ rfl) (by simp [hf]) .saConv s.curDev rfl hn
    (by rw [selectLine_csN, hi.csN_asserted (.inr hf)]; exact driveLine_release _ _)
    (hi.busLock.trans (hf ▸ rfl)) (by simp [hf]) (by simp [Fsm.inTransaction])
    fun _ => ⟨hi.startPhase hs, hi.startDev hs⟩

theorem State.Inv.saConv {s : State} (hi : s.Inv) (hf : s.fsm = .saConv) (hv : s.faultValid = false) :
    s.saConv.Inv := by
  have hb : s.fsm.inByte = false := hf ▸ rfl
  have ht : s.fsm.inTransaction = false := hf ▸ rfl
  have hp : s.phase ≠ .unconfigured := hi.startPhase (hf ▸ rfl)
  refine hi.wait ?_
  unfold State.endSaConv
  split
  · next hnext =>
    obtain ⟨hn, -⟩ := Params.delays_le s.params
    exact hi.enter hb (by simp [hf]) .saDesel (s.curDev + 1) rfl hn
      (hi.csN_rest ht (by simp [hf])) (hi.busLock.trans ht) (by simp [hf]) (by simp [Fsm.inTransaction])
      fun _ => ⟨hp, lt_of_le_of_lt (by rw [BitVec.toNat_add]; exact Nat.mod_le _ _) hnext⟩
  · exact State.Inv.respond
      (hi.toIdle hb ht (by simp [hf]) (fun _ => hi.sound hp (by simp [hf])) (hi.toFlag_low (by simp [hf]))) hv .done 0

/-! ### DESELECTED -/

/-- The window of the effective device and the slot at its head exist, so AVG_UPDATE goes on (R62, R129). -/
theorem State.Inv.avgUpdate_next {s : State} (hi : s.Inv) (d : DevIdx) (v : Decoded) :
    ∃ r, s.avgUpdate (eff s.params d) v = .next r := by
  cases ha : s.params.avgEnabled
  · exact ⟨(s, v), by simp [State.avgUpdate, ha]⟩
  · obtain ⟨hlen, hfits⟩ := hi.windows ha
    have hd : eff s.params d < s.windows.length := hlen ▸ eff_lt _ _
    obtain ⟨hslots, hhead, -⟩ := hfits _ (List.getElem_mem hd)
    unfold State.avgUpdate
    rw [if_pos ha, List.getElem?_eq_getElem hd]
    dsimp only
    rw [List.getElem?_eq_getElem (hslots ▸ hhead)]
    exact ⟨_, rfl⟩

theorem State.Inv.deselected_next {s : State} (hi : s.Inv) : ∃ t, s.deselected = .next t := by
  unfold State.deselected State.reportRead State.reportValid
  split
  · simp
  · split
    · simp
    · simp
    · next x hx =>
      obtain ⟨r, hr⟩ := hi.avgUpdate_next s.curDev x
      simp [hr]

/-- AVG_UPDATE with a valid value keeps the invariant (R129, R130). -/
theorem State.Inv.avgUpdate {s u : State} {d : Nat} {v m : Decoded} (hi : s.Inv) (hp : s.phase ≠ .unconfigured)
    (hf : s.fsm ≠ .setupInit) (hv : 10 ≤ v.toNat ∧ v.toNat ≤ 1200) (h : s.avgUpdate d v = .next (u, m)) : u.Inv := by
  rcases avgUpdate_cases h with ⟨-, rfl, -⟩ | ⟨ha, w, old, hw, ho, rfl, -⟩
  · exact hi
  · obtain ⟨hlen, hfits⟩ := hi.windows ha
    have hsound := hi.sound hp hf
    have hmem := List.mem_of_getElem? hw
    obtain ⟨hf', hs', -⟩ := insert_keeps (hfits w hmem) (hsound w hmem) ho hv
    exact
      { hi with
        windows := fun _ => ⟨by simpa using hlen, fun x hx =>
          (List.mem_or_eq_of_mem_set hx).elim (hfits x) fun h => h ▸ hf'⟩
        noWindows := fun h => by cases ha.symm.trans h
        sound := fun _ _ x hx => (List.mem_or_eq_of_mem_set hx).elim (hsound x) fun h => h ▸ hs' }

/-- AVG_UPDATE writes nothing but the windows (R129). -/
theorem avgUpdate_frame {s u : State} {d : Nat} {v m : Decoded} (h : s.avgUpdate d v = .next (u, m)) :
    ∃ ws, u = { s with windows := ws } := by
  rcases avgUpdate_cases h with ⟨-, rfl, -⟩ | ⟨-, w, old, -, -, rfl, -⟩
  · exact ⟨u.windows, rfl⟩
  · exact ⟨_, rfl⟩

theorem State.Inv.deselected {s t : State} (hi : s.Inv) (hf : s.fsm = .deselected) (hv : s.faultValid = false)
    (h : s.deselected = .next t) : t.Inv := by
  have hp : s.phase ≠ .unconfigured := by simp [hi.readPhase (.inr hf)]
  have hset : s.fsm ≠ .setupInit := by simp [hf]
  have idle {u : State} (hu : u.Inv) (hfu : u.fsm = .deselected) :
      { u with toFlag := false, fsm := .idle : State }.Inv :=
    hu.toIdle (by simp [hfu, Fsm.inByte]) (by simp [hfu, Fsm.inTransaction]) (by simp [hfu])
      (fun hp => hu.sound hp (by simp [hfu])) rfl
  rcases deselected_cases h with ⟨-, rfl⟩ | ⟨-, -, rfl⟩ | ⟨-, x, -, rfl⟩ | ⟨-, x, u, m, hx, hu, rfl⟩
  · exact idle (hi.takeFault _ _) hf
  · exact idle (hi.takeFault _ _) hf
  · exact idle (hi.takeFault _ _) hf
  · have huInv := hi.avgUpdate hp hset (classify_valid_range hx) hu
    obtain ⟨ws, rfl⟩ := avgUpdate_frame hu
    exact idle (huInv.respond hv _ _) hf

/-! ## A whole step -/

/-- No instruction the host can issue stops in its acceptance cycle. -/
theorem exec_command_next {i : Instr} {c : Byte} (h : decode c = .instr i) (s : State) : ∃ t, exec i s = .next t := by
  rcases decode_command h with rfl | rfl | ⟨dev, rfl⟩
  · simp only [exec, execSetup]; split <;> exact ⟨_, rfl⟩
  · simp only [exec, execStartAll]; split <;> exact ⟨_, rfl⟩
  · simp only [exec, execRead]; split <;> exact ⟨_, rfl⟩

/-- The sequencer stops in no state but, at most, DESELECTED, and there the invariant keeps it going. -/
theorem sequence_next {old s : State} (hi : s.Inv) : ∃ t, old.sequence s = .next t := by
  cases hf : old.fsm
  case deselected => simpa [State.sequence, hf] using hi.deselected_next
  all_goals simp [State.sequence, hf]

/-- From a state with the invariant every cycle answers a next state, whatever its inputs. -/
theorem step_next {s : State} (hi : s.Inv) : ∃ t, step s = .next t := by
  cases hr : s.inputs.rst with
  | true => exact ⟨_, step_reset hr⟩
  | false =>
    by_cases hf : s.fsm = .idle
    · cases hv : s.inputs.cmdValid with
      | false => exact ⟨_, step_quiet hr hf hv⟩
      | true =>
        have ha : s.accepts s.inputs.cmd := ⟨hf, hr, hv, rfl⟩
        cases hd : decode s.inputs.cmd with
        | illegal why => exact ⟨_, step_illegal ha hd⟩
        | instr i =>
          obtain ⟨u, hu⟩ := exec_command_next hd s.beginCycle
          exact ⟨_, by rw [step_accept ha hd, hu]; rfl⟩
    · obtain ⟨u, hu⟩ := sequence_next (old := s) hi.beginCycle
      exact ⟨_, by rw [step_busy hr hf, hu]; rfl⟩

/-- Each case of `step_cases` keeps the invariant: the cycle's beginning does, and so does what is laid over it. -/
theorem step_keeps_inv {s t : State} (hi : s.Inv) (h : step s = .next t) : t.Inv := by
  obtain ⟨u, rfl, hc⟩ := step_cases h
  clear h
  have hb : s.beginCycle.Inv := hi.beginCycle
  have hv : s.beginCycle.faultValid = false := beginCycle_faultValid s
  refine State.Inv.endCycle ?_
  rcases hc with ⟨-, rfl⟩ | ⟨-, hc⟩
  · exact hi.resetEdge
  rcases hc with ⟨-, rfl | rfl | rfl⟩ | ⟨⟨hf, -⟩, rfl⟩ | ⟨⟨hf, -⟩, hp, rfl⟩ | ⟨hp, dev, ⟨hf, -⟩, rfl⟩ |
    ⟨hf, rfl⟩ | ⟨hf, rfl⟩ | ⟨hf, -, rfl⟩ | ⟨hf, -, rfl⟩ | ⟨hf, hx, rfl⟩ | ⟨hf, hd⟩ | ⟨hf, rfl⟩ | ⟨hf, rfl⟩ | ⟨hf, rfl⟩ | ⟨hf, rfl⟩
  · exact hb
  · exact hb.respond hv _ _
  · exact hb.respond hv _ _
  · simpa using hb.acceptSetup (by simpa using hf)
  · simpa using hb.acceptStartAll (by simpa using hf) (by simpa using hp)
  · exact hb.startRead (by simpa using hf) (by simpa using hp) dev
  · exact hb.selected (by simpa using hf)
  · exact hb.latched (by simpa using hf)
  · exact hb.timeoutStep (by simpa using hf)
  · exact hb.byteMsb (by simpa using hf) _
  · have hx : s.xferActive = false := by simpa [hx] using hi.inByte (hf ▸ rfl)
    exact hb.byteLsb (by simpa using hf) (by simpa [beginCycle_rest hx] using hx) _
  · exact hb.deselected (by simpa using hf) hv hd
  · exact hb.setupInit (by simpa using hf) hv
  · exact hb.saDesel (by simpa using hf)
  · exact hb.saAssert (by simpa using hf)
  · exact hb.saConv (by simpa using hf) hv

/-! ## What a step may write outside the sequencer -/

/-- From s to u the registers that outlive a command, and the answers to the host, are as they were: the pulses are low, and nothing else here is written. -/
structure State.KeepsRecords (s u : State) : Prop where
  params : u.params = s.params
  mosi : u.mosi = s.mosi
  phase : u.phase = s.phase
  windows : u.windows = s.windows
  rspValid : u.rspValid = false
  rspStatus : u.rspStatus = s.rspStatus
  rspData : u.rspData = s.rspData
  faultValid : u.faultValid = false
  faultCode : u.faultCode = s.faultCode

theorem beginCycle_keepsRecords (s : State) : s.KeepsRecords s.beginCycle := by constructor <;> simp

theorem wait_keepsRecords {s u : State} {leave : State → State} (hu : s.KeepsRecords u)
    (hl : s.KeepsRecords (leave u)) : s.KeepsRecords (u.wait leave) := by
  unfold State.wait
  split
  · exact hl
  · exact { hu with }

theorem timeoutStep_keepsRecords {s u : State} (hu : s.KeepsRecords u) : s.KeepsRecords u.timeoutStep := by
  unfold State.timeoutStep
  split
  · exact hu
  · split <;> exact { hu with }

/-- What the DESELECTED cycle writes of the records: the response and, for a Valid word, the windows (R142). -/
theorem deselected_records {s t : State} (h : s.deselected = .next t) :
    t.params = s.params ∧ t.mosi = s.mosi ∧ t.phase = s.phase ∧ t.rspValid = true ∧
    (t.faultValid = true ∨ t.faultCode = s.faultCode) ∧
    (t.windows = s.windows ∨ s.toFlag = false ∧ ∃ x, classify s.sr = .valid x) := by
  rcases deselected_cases h with ⟨-, rfl⟩ | ⟨-, -, rfl⟩ | ⟨-, x, -, rfl⟩ | ⟨hf, x, u, m, hx, hu, rfl⟩
  · simp
  · simp
  · simp
  · obtain ⟨ws, rfl⟩ := avgUpdate_frame hu
    simp [hf, hx]

/-- A step that is no reset keeps the records, answers a word it refuses, or is a cycle of DESELECTED, of SETUP_INIT, or the last of START_ALL. -/
theorem step_records {s t : State} (h : step s = .next t) :
    (s.inputs.rst = true ∧ t = s.endCycle s.resetEdge) ∨
    (s.inputs.rst = false ∧
      (s.KeepsRecords t ∨
       (∃ st data, t = s.endCycle (s.beginCycle.respond st data)) ∨
       (s.fsm = .deselected ∧ ∃ u, s.beginCycle.deselected = .next u ∧ t = s.endCycle u) ∨
       (s.fsm = .setupInit ∧ t = s.endCycle s.beginCycle.setupInit) ∨
       (s.fsm = .saConv ∧ s.dlyCnt = 0 ∧
        t = s.endCycle { s.beginCycle.respond .done 0 with phase := .started, fsm := .idle }))) := by
  obtain ⟨u, rfl, hc⟩ := step_cases h
  have hb := beginCycle_keepsRecords s
  rcases hc with ⟨hr, rfl⟩ | ⟨hr, hc⟩
  · exact .inl ⟨hr, rfl⟩
  refine .inr ⟨hr, ?_⟩
  have keeps {u : State} (hu : s.KeepsRecords u) : s.KeepsRecords (s.endCycle u) := { hu with }
  rcases hc with ⟨-, rfl | rfl | rfl⟩ | ⟨-, rfl⟩ | ⟨-, -, rfl⟩ | ⟨-, dev, -, rfl⟩ | ⟨-, rfl⟩ | ⟨-, rfl⟩ |
    ⟨-, -, rfl⟩ | ⟨-, -, rfl⟩ | ⟨-, -, rfl⟩ | ⟨hf, hd⟩ | ⟨hf, rfl⟩ | ⟨-, rfl⟩ | ⟨-, rfl⟩ | ⟨hf, rfl⟩
  · exact .inl (keeps hb)
  · exact .inr (.inl ⟨_, _, rfl⟩)
  · exact .inr (.inl ⟨_, _, rfl⟩)
  · exact .inl { hb with }
  · exact .inl { hb with }
  · exact .inl { hb with }
  · exact .inl (keeps (wait_keepsRecords hb { hb with }))
  · exact .inl { hb with }
  · exact .inl (keeps (timeoutStep_keepsRecords hb))
  · exact .inl { hb with }
  · exact .inl { hb with }
  · exact .inr (.inr (.inl ⟨hf, u, hd, rfl⟩))
  · exact .inr (.inr (.inr (.inl ⟨hf, rfl⟩)))
  · exact .inl (keeps (wait_keepsRecords hb { hb with }))
  · exact .inl (keeps (wait_keepsRecords hb { hb with }))
  · by_cases hd : s.dlyCnt = 0
    · rw [State.saConv, wait_over (by simpa using hd), State.endSaConv]
      split
      · exact .inl { hb with }
      · exact .inr (.inr (.inr (.inr ⟨hf, hd, rfl⟩)))
    · rw [State.saConv, wait_on (by simpa using hd)]
      exact .inl { hb with }

/-- SETUP_INIT leaves everything but the windows, its count and, in its last cycle, the phase, the state and the response (R140). -/
theorem setupInit_cases (s : State) :
    (s.dlyCnt = 0 ∧ s.setupInit = s.finishSetup) ∨
    (s.dlyCnt ≠ 0 ∧ ∃ ws, s.setupInit = { s with dlyCnt := s.dlyCnt - 1, windows := ws }) := by
  by_cases hd : s.dlyCnt = 0
  · exact .inl ⟨hd, by simp [State.setupInit, hd]⟩
  · exact .inr ⟨hd, _, setupInit_on hd⟩

/-- No step changes a parameter, and none raises `mosi` (R31, R58). -/
theorem step_constants {s t : State} (h : step s = .next t) :
    t.params = s.params ∧ (s.mosi = false → t.mosi = false) := by
  rcases step_records h with ⟨-, rfl⟩ | ⟨-, hk | ⟨st, data, rfl⟩ | ⟨-, u, hu, rfl⟩ | ⟨-, rfl⟩ | ⟨-, -, rfl⟩⟩
  · simp
  · exact ⟨hk.params, hk.mosi.trans⟩
  · simp
  · obtain ⟨hp, hm, -⟩ := deselected_records hu
    simp [hp, hm]
  · rcases setupInit_cases s.beginCycle with ⟨-, he⟩ | ⟨-, ws, he⟩ <;> simp [he, State.finishSetup]
  · simp

theorem step_params {s t : State} (h : step s = .next t) : t.params = s.params := (step_constants h).1

/-! ## Runs from reset -/

/-- In IDLE the bus is at rest (R59). -/
theorem State.Inv.idle_rests {s : State} (hi : s.Inv) (hf : s.fsm = .idle) :
    s.csN = allOnes s.params ∧ s.sck = false ∧ s.busLock = false ∧ s.xferActive = false ∧ s.xferDone = false ∧
    s.toFlag = false := by
  obtain ⟨hx, hd⟩ := hi.atRest (by simp [hf, Fsm.inByte])
  exact ⟨hi.csN_rest (by simp [hf, Fsm.inTransaction]) (by simp [hf]), hi.sck hx,
    hi.busLock.trans (by simp [hf, Fsm.inTransaction]), hx, hd, hi.toFlag_low (by simp [hf])⟩

/-- Every run from reset answers a state with the invariant, of the same block. -/
theorem runFor_reset_inv {p : Params} (hp : p.wf = true) (e : List Inputs) (c n : Nat) :
    ∃ t, runFor n { State.resetWith p with env := e, cycle := c } = .next t ∧ t.Inv ∧ t.params = p := by
  refine runFor_keeps (P := fun s => s.Inv ∧ s.params = p) ?_ n ⟨{ resetWith_inv hp with }, rfl⟩
  rintro s ⟨hi, hs⟩
  obtain ⟨t, ht⟩ := step_next hi
  exact ⟨t, ht, step_keeps_inv hi ht, (step_params ht).trans hs⟩

/-! ## The sensors -/

theorem State.Inv.csN_length {s : State} (hi : s.Inv) : s.csN.length = s.params.deviceCount.toNat := by
  rw [hi.lines, State.linesOfFsm]
  split <;> simp

/-- Without a rising edge a record only counts the cycles since its last one (R56). -/
theorem Sensor.tick_of_no_rise {before after : Bool} (h : ¬ (before = false ∧ after = true)) (x : Sensor) :
    x.tick before after = { x with sinceEdge := if x.inFlight then x.sinceEdge + 1 else x.sinceEdge } := by
  unfold Sensor.tick
  rw [if_neg (by simpa using h)]
  split <;> rfl

/-! ## The inputs of a cycle -/

/-- What the cycle that begins in s does, with what the command port gives and the state b it has begun: all of `step` but the end of the cycle. -/
def State.perform (s b : State) : Fetched → Outcome
  | .reset => .next s.resetEdge
  | .busy => s.sequence b
  | .quiet => .next b
  | .illegal _ => .next b.refuseIllegal
  | .command i => exec i b

theorem step_eq_perform (s : State) :
    step s = andThen (s.perform s.beginCycle s.fetch) fun t => .next (s.endCycle t) := by
  unfold step State.perform
  cases s.fetch <;> rfl

/-! The operations of a cycle do not look at the list of inputs: only `fetch` and `beginCycle` read it. -/

theorem avgUpdate_setEnv (d : Nat) (v : Decoded) (s : State) (e : List Inputs) :
    { s with env := e }.avgUpdate d v =
      andThen (s.avgUpdate d v) fun r => .next ({ r.1 with env := e }, r.2) := by
  dsimp only [State.avgUpdate]
  cases s.params.avgEnabled with
  | false => rfl
  | true =>
    cases s.windows[d]? with
    | none => rfl
    | some w => dsimp only; cases w.slots[w.head]? <;> rfl

theorem reportRead_setEnv (s : State) (e : List Inputs) :
    { s with env := e }.reportRead = andThen s.reportRead fun t => .next { t with env := e } := by
  dsimp only [State.reportRead]
  split
  · rfl
  · cases classify s.sr with
    | lineFault => rfl
    | rangeFault x => rfl
    | valid x =>
      simp only [State.reportValid, avgUpdate_setEnv]
      cases s.avgUpdate (eff s.params s.curDev) x <;> rfl

theorem deselected_setEnv (s : State) (e : List Inputs) :
    { s with env := e }.deselected = andThen s.deselected fun t => .next { t with env := e } := by
  simp only [State.deselected, reportRead_setEnv]
  cases s.reportRead <;> rfl

theorem exec_setEnv (i : Instr) (s : State) (e : List Inputs) :
    exec i { s with env := e } = andThen (exec i s) fun t => .next { t with env := e } := by
  cases i with
  | setup => rfl
  | startAll => dsimp only [exec, execStartAll]; cases phaseAllows s.phase .startAll <;> rfl
  | read dev => dsimp only [exec, execRead]; cases phaseAllows s.phase (.read dev) <;> rfl
  | avgUpdate d v =>
    simp only [exec, execAvgUpdate, avgUpdate_setEnv]
    cases s.avgUpdate (eff s.params d) v <;> rfl
  | select dev active => rfl
  | xferByte => rfl
  | readRaw dev => rfl
  | classify raw => rfl
  | avgInit => rfl

theorem wait_setEnv {leave : State → State} {s : State} {e : List Inputs}
    (hl : leave { s with env := e } = { leave s with env := e }) :
    { s with env := e }.wait leave = { s.wait leave with env := e } := by
  dsimp only [State.wait]
  split
  · exact hl
  · rfl

theorem timeoutStep_setEnv (s : State) (e : List Inputs) :
    { s with env := e }.timeoutStep = { s.timeoutStep with env := e } := by
  dsimp only [State.timeoutStep]
  cases s.params.busTimeout with
  | none => rfl
  | some t => dsimp only; split <;> rfl

theorem endSaConv_setEnv (s : State) (e : List Inputs) :
    { s with env := e }.endSaConv = { s.endSaConv with env := e } := by
  dsimp only [State.endSaConv]
  split <;> rfl

theorem setupInit_setEnv (s : State) (e : List Inputs) :
    { s with env := e }.setupInit = { s.setupInit with env := e } := by
  dsimp only [State.setupInit]
  split <;> rfl

theorem byteMsb_setEnv (done : Bool) (byte : Byte) (s : State) (e : List Inputs) :
    { s with env := e }.byteMsb done byte = { s.byteMsb done byte with env := e } := by
  cases done with
  | true => rfl
  | false => exact timeoutStep_setEnv s e

theorem byteLsb_setEnv (done : Bool) (byte : Byte) (s : State) (e : List Inputs) :
    { s with env := e }.byteLsb done byte = { s.byteLsb done byte with env := e } := by
  cases done with
  | true => rfl
  | false => exact timeoutStep_setEnv s e

theorem byteEngine_setEnv (r m : Bool) (s : State) (e : List Inputs) :
    { s with env := e }.byteEngine r m = { s.byteEngine r m with env := e } := by
  dsimp only [State.byteEngine, State.bitEnd]
  repeat' split
  all_goals rfl

theorem sequence_setEnv (old s : State) (e e' : List Inputs) :
    State.sequence { old with env := e' } { s with env := e } =
      andThen (old.sequence s) fun t => .next { t with env := e } := by
  dsimp only [State.sequence]
  cases old.fsm with
  | idle => rfl
  | selected => exact congrArg _ (wait_setEnv rfl)
  | latched => rfl
  | byteMsb => exact congrArg _ (byteMsb_setEnv _ _ s e)
  | byteLsb => exact congrArg _ (byteLsb_setEnv _ _ s e)
  | deselected => exact deselected_setEnv s e
  | setupInit => exact congrArg _ (setupInit_setEnv s e)
  | saDesel => exact congrArg _ (wait_setEnv rfl)
  | saAssert => exact congrArg _ (wait_setEnv rfl)
  | saConv => exact congrArg _ (wait_setEnv (endSaConv_setEnv s e))

theorem perform_setEnv (s b : State) (f : Fetched) (e : List Inputs) :
    State.perform { s with env := e } { b with env := e } f =
      andThen (s.perform b f) fun t => .next { t with env := e } := by
  cases f with
  | reset => rfl
  | busy => exact sequence_setEnv s b e e
  | quiet => rfl
  | illegal why => rfl
  | command i => exact exec_setEnv i b e

/-- A cycle with the inputs i, and all it reads of them: what the command port gives, `bus_ready` and `miso` (R26, R32, R35). -/
theorem step_with_inputs (s : State) (i : Inputs) (rest : List Inputs) :
    step { s with env := i :: rest } =
      andThen (s.perform (s.clearPulses.byteEngine i.busReady i.miso) { s with env := i :: rest }.fetch) fun t =>
        .next { s.endCycle t with env := rest } := by
  have hb : { s with env := i :: rest }.beginCycle =
      { s.clearPulses.byteEngine i.busReady i.miso with env := i :: rest } := byteEngine_setEnv _ _ s.clearPulses _
  rw [step_eq_perform, hb, perform_setEnv]
  cases s.perform (s.clearPulses.byteEngine i.busReady i.miso) { s with env := i :: rest }.fetch <;> rfl

/-- Away from the sample point the byte engine takes nothing from `miso` (R105, R106). -/
theorem byteEngine_ignores_miso {s : State} {r : Bool}
    (h : ¬ (s.xferActive = true ∧ r = true ∧ s.divCnt = s.params.sckDiv - 1 ∧ s.sck = false)) (m m' : Bool) :
    s.byteEngine r m = s.byteEngine r m' := by
  by_cases hh : s.xferActive = false ∨ r = false
  · rw [byteEngine_holds hh, byteEngine_holds hh]
  obtain ⟨ha, rfl⟩ : s.xferActive = true ∧ r = true := by simpa using hh
  by_cases hd : s.divCnt = s.params.sckDiv - 1
  · have hk : s.sck = true := by simpa [ha, hd] using h
    by_cases hc : s.bitCnt = 7
    · rw [byteEngine_completes ha hd hk hc, byteEngine_completes ha hd hk hc]
    · rw [byteEngine_falls ha hd hk hc, byteEngine_falls ha hd hk hc]
  · rw [byteEngine_counts ha hd, byteEngine_counts ha hd]

/-! ## The obligations -/

/-- Settles O7: a step answers, and the state it ends in, one of those of `step_cases`, keeps the invariant. -/
theorem everyStepKeepsTheInvariant : Obligations.EveryStepKeepsTheInvariant := by
  intro s hi
  obtain ⟨t, ht⟩ := step_next hi
  exact ⟨t, ht, step_keeps_inv hi ht⟩

/-- Settles O8: the invariant holds at the end of every run from reset, and in IDLE it says that the bus rests. -/
theorem idleLeavesTheBusAtRest : Obligations.IdleLeavesTheBusAtRest := by
  intro p e c n hp
  obtain ⟨t, ht, hi, rfl⟩ := runFor_reset_inv hp e c n
  exact ⟨t, ht, hi.idle_rests⟩

/-- Settles O11: each bound is the invariant's own, and `leastWidth n` bits hold n. -/
theorem countersFitTheirWidths : Obligations.CountersFitTheirWidths := by
  intro s hi
  refine ⟨hi.dlyCnt.trans_lt (lt_two_pow_leastWidth _), hi.divCnt.trans_lt (lt_two_pow_leastWidth _), fun w hw => ?_⟩
  cases ha : s.params.avgEnabled
  · simp [hi.noWindows ha] at hw
  · obtain ⟨-, hfits⟩ := hi.windows ha
    obtain ⟨-, hhead, hsum⟩ := hfits w hw
    exact ⟨hhead, hsum⟩

/-- Settles O16: a cycle reads `miso` in its byte engine only. -/
theorem misoIsReadOnlyAtTheSamplePoint : Obligations.MisoIsReadOnlyAtTheSamplePoint := by
  intro s i rest b h
  rw [step_with_inputs, step_with_inputs, byteEngine_ignores_miso (s := s.clearPulses) h i.miso b]
  rfl

/-- Settles O17: the record of sensor d ticks on its own line, which exists before and after the edge. -/
theorem risingLineStartsAConversion : Obligations.RisingLineStartsAConversion := by
  intro s t d x hi h hx
  obtain ⟨-, -, hs⟩ := step_environment h
  have hd : d < s.params.deviceCount.toNat := hi.sensors ▸ (List.getElem?_eq_some_iff.1 hx).1
  have hlen : d < s.csN.length := hi.csN_length ▸ hd
  have hlen' : d < t.csN.length := by
    rw [(step_keeps_inv hi h).csN_length, step_params h]
    exact hd
  rw [hs, tickSensors_get, hx]
  simp only [Option.map_some, Nat.zero_add, List.getD_eq_getElem?_getD, List.getElem?_eq_getElem hlen,
    List.getElem?_eq_getElem hlen', Option.getD_some, Option.some.injEq]
  exact ⟨fun hb ha => by rw [hb, ha]; rfl, fun hn => Sensor.tick_of_no_rise hn x⟩

/-- Settles O40: of the cases of `step_records` only the three named write the phase. -/
theorem phaseIsWrittenOnlyByTheBootOrder : Obligations.PhaseIsWrittenOnlyByTheBootOrder := by
  intro s t hi h hne
  rcases step_records h with ⟨hr, rfl⟩ | ⟨hr, hk | ⟨st, data, rfl⟩ | ⟨-, u, hu, rfl⟩ | ⟨hf, rfl⟩ | ⟨hf, hd, rfl⟩⟩
  · exact .inl ⟨hr, rfl⟩
  · exact absurd hk.phase hne
  · simp at hne
  · obtain ⟨-, -, hp, -⟩ := deselected_records hu
    simp [hp] at hne
  · rcases setupInit_cases s.beginCycle with ⟨hd, he⟩ | ⟨-, ws, he⟩
    · exact .inr (.inl ⟨hr, hf, by simpa using hd, by simp [he, State.finishSetup]⟩)
    · simp [he] at hne
  · exact .inr (.inr ⟨hr, hf, hd, rfl⟩)

/-- Settles O41: a reset edge leaves the windows alone, and a READ writes them only in its DESELECTED cycle. -/
theorem onlySetupAndValidReadsChangeWindows : Obligations.OnlySetupAndValidReadsChangeWindows := by
  intro s t hi h hne
  rcases step_records h with ⟨hr, rfl⟩ | ⟨hr, hk | ⟨st, data, rfl⟩ | ⟨hf, u, hu, rfl⟩ | ⟨hf, rfl⟩ | ⟨-, -, rfl⟩⟩
  · simp at hne
  · exact absurd hk.windows hne
  · simp at hne
  · obtain ⟨-, -, -, -, -, hw⟩ := deselected_records hu
    exact ⟨hr, .inr ⟨hf, by simpa using hw.resolve_left (by simpa using hne)⟩⟩
  · exact ⟨hr, .inl hf⟩
  · simp at hne

/-- Settles O45: whatever writes the response or the fault code raises its pulse. -/
theorem responseAndFaultCodeAreHeld : Obligations.ResponseAndFaultCodeAreHeld := by
  intro s t hr h
  rcases step_records h with ⟨hr', -⟩ | ⟨-, hk | ⟨st, data, rfl⟩ | ⟨-, u, hu, rfl⟩ | ⟨-, rfl⟩ | ⟨-, -, rfl⟩⟩
  · simp [hr] at hr'
  · exact ⟨fun _ => ⟨hk.rspStatus, hk.rspData⟩, fun _ => hk.faultCode⟩
  · simp
  · obtain ⟨-, -, -, hv, hc, -⟩ := deselected_records hu
    exact ⟨by simp [hv], fun hf => by simpa [show u.faultValid = false from hf] using hc⟩
  · rcases setupInit_cases s.beginCycle with ⟨-, he⟩ | ⟨-, ws, he⟩ <;> simp [he, State.finishSetup]
  · simp

/-- Settles O47: `step_constants`. -/
theorem parametersAndMosiAreConstant : Obligations.ParametersAndMosiAreConstant :=
  fun _ _ => step_constants

/-- Settles O4: the cycle ends on `resetEdge`, and each register is read off it. -/
theorem resetEdgeGivesResetValues : Obligations.ResetEdgeGivesResetValues := by
  intro s hr
  exact ⟨_, step_reset hr, by simp [allOnes]⟩

/-- Settles O6: `resetWith_inv`, for the default block too. -/
theorem resetEstablishesTheInvariant : Obligations.ResetEstablishesTheInvariant :=
  ⟨resetWith_inv (by decide), fun _ h => resetWith_inv h⟩

end Sys2Proof.Machine
end

section
/-! PROOFS of 30_encoding: the command words and the assembler. -/

namespace Sys2Proof.Machine

open Sys2Proof.Laws

/-- The family CommandWord, of every instruction. -/
theorem commandWord (i : Instr) : CommandWord.Statement i := by
  cases i with
  | setup => exact CommandWord.setup
  | startAll => exact CommandWord.startAll
  | read dev => exact CommandWord.read dev
  | select dev active => exact CommandWord.select dev active
  | xferByte => exact CommandWord.xferByte
  | readRaw dev => exact CommandWord.readRaw dev
  | classify raw => exact CommandWord.classify raw
  | avgInit => exact CommandWord.avgInit
  | avgUpdate d v => exact CommandWord.avgUpdate d v

/-- A word that decodes is the word of what it decodes to (R77, R83). -/
theorem encode_of_decode {i : Instr} {w : Byte} (h : decode w = .instr i) : encode i = some w := by
  rcases decode_command h with rfl | rfl | ⟨dev, rfl⟩
  · rw [decode_setup h]; rfl
  · rw [decode_startAll h]; rfl
  · rw [decode_read h]; rfl

theorem encode_eq_some_iff {i : Instr} {w : Byte} : encode i = some w ↔ decode w = .instr i :=
  ⟨(commandWord i).2 w, encode_of_decode⟩

/-- Settles O2: a command's word is the only one that decodes to it, and only a command has a word. -/
theorem decodeAndEncodeAgree : Obligations.DecodeAndEncodeAgree := by
  refine ⟨fun _ _ => encode_eq_some_iff, fun i => ?_⟩
  simp only [← encode_eq_some_iff, ← (commandWord i).1, Option.isSome_iff_exists]

theorem wordC8_read (dev : DevIdx) : wordC8 0x3 dev = 0x30 ∨ wordC8 0x3 dev = 0x31 := by
  revert dev; decide

/-- Settles O1: a word that decodes to an instruction is that of SETUP, of START_ALL or of a READ. -/
theorem commandWordsDecodeAsTabled : Obligations.CommandWordsDecodeAsTabled := by
  refine ⟨CommandWord.setup.2 _ rfl, CommandWord.startAll.2 _ rfl, (CommandWord.read 0).2 _ rfl,
    (CommandWord.read 1).2 _ rfl, fun c hSetup hStart hRead0 hRead1 => ?_⟩
  cases hd : decode c with
  | illegal why => exact ⟨why, rfl⟩
  | instr i =>
    exfalso
    rcases decode_command hd with rfl | rfl | ⟨dev, rfl⟩
    · exact hSetup (decode_setup hd)
    · exact hStart (decode_startAll hd)
    · have hc := decode_read hd
      rcases wordC8_read dev with hw | hw
      · exact hRead0 (hc.trans hw)
      · exact hRead1 (hc.trans hw)

/-- A line that stands for one item emits what the item emits. -/
theorem emit_of_assembleLine {line : List Char} {a : AsmItem} {ws : List Byte}
    (ha : assembleLine line = some [a]) (hw : a.emit = ws) :
    (assembleLine line).map (·.flatMap AsmItem.emit) = some ws := by
  simp [ha, hw]

/-- Settles O3: each accepted line stands for one item, and `deviceOperand` takes no 2. -/
theorem assemblerWritesTabledWords : Obligations.AssemblerWritesTabledWords :=
  ⟨emit_of_assembleLine (a := .command .setup) (by decide) rfl,
   emit_of_assembleLine (a := .command .startAll) (by decide) rfl,
   emit_of_assembleLine (a := .command (.read 1)) (by decide) rfl,
   emit_of_assembleLine (a := .byte 0x12) (by decide) rfl,
   emit_of_assembleLine (a := .envReset) (by decide) rfl,
   by decide⟩

end Sys2Proof.Machine
end

section
/-! PROOFS of 40_device_selector: the routing of a logical device to a line, and the lines of a state with the invariant. -/

namespace Sys2Proof.Machine

/-! ## Routing -/

theorem eff_physical {p : Params} {d : DevIdx} (h : d.toNat < p.deviceCount.toNat) : eff p d = d.toNat := if_pos h

/-- An absent device is routed to line 0 where ABSENT_SELECT says so (R93). -/
theorem lineOf_absent_alias {p : Params} {d : DevIdx} (h : ¬ d.toNat < p.deviceCount.toNat)
    (ha : p.absentSelect = .aliasLine0) : lineOf p d = some 0 := by simp [lineOf, h, ha]

/-- An absent device is routed nowhere under `noop` (R94). -/
theorem lineOf_absent_noop {p : Params} {d : DevIdx} (h : ¬ d.toNat < p.deviceCount.toNat)
    (ha : p.absentSelect = .noop) : lineOf p d = none := by simp [lineOf, h, ha]

/-- No device is routed to a line the block does not have. -/
theorem lineOf_lt {p : Params} {d : DevIdx} {l : Nat} (h : lineOf p d = some l) : l < p.deviceCount.toNat := by
  by_cases hd : d.toNat < p.deviceCount.toNat
  · rw [lineOf_physical hd] at h
    exact Option.some.inj h ▸ hd
  · cases ha : p.absentSelect with
    | aliasLine0 =>
      rw [lineOf_absent_alias hd ha] at h
      exact Option.some.inj h ▸ DeviceCount.toNat_pos _
    | noop =>
      rw [lineOf_absent_noop hd ha] at h
      cases h

/-! ## SELECT -/

section
variable {s : State} {dev : DevIdx} (active : Bool)

theorem exec_select : exec (.select dev active) s = .next (s.selectLine dev active) := rfl

/-- SELECT of a device that has a line writes that line only (R92, R93). -/
theorem exec_select_routed {l : Nat} (h : lineOf s.params dev = some l) :
    exec (.select dev active) s = .next { s with csN := s.csN.set l (!active) } := by
  simp [exec_select, State.selectLine, driveLine, h]

/-- SELECT of a device that has no line has no effect (R94). -/
theorem exec_select_unrouted (h : lineOf s.params dev = none) : exec (.select dev active) s = .next s := by
  simp [exec_select, State.selectLine, driveLine, h]

end

/-- Settles O21: with two devices every one is physical; with one, device 0 is, and device 1 goes where ABSENT_SELECT routes it. -/
theorem selectDrivesTheRoutedLine : Obligations.SelectDrivesTheRoutedLine := by
  refine fun s dev active => ⟨fun hc => ?two, fun hc => ⟨?effOne, ?routed, ?unrouted⟩⟩
  case two =>
    have hd : dev.toNat < s.params.deviceCount.toNat := hc ▸ dev.isLt
    exact ⟨exec_select_routed active (lineOf_physical hd), eff_physical hd⟩
  case effOne =>
    have hlt := eff_lt s.params dev
    rw [hc] at hlt
    exact Nat.lt_one_iff.1 hlt
  case routed =>
    intro h
    refine exec_select_routed active ?_
    by_cases hd : dev.toNat < s.params.deviceCount.toNat
    · rw [lineOf_physical hd]
      rw [hc] at hd
      exact congrArg some (Nat.lt_one_iff.1 hd)
    · refine lineOf_absent_alias hd (h.resolve_left ?_)
      rintro rfl
      exact hd (DeviceCount.toNat_pos _)
  case unrouted =>
    rintro ⟨rfl, hn⟩
    exact exec_select_unrouted active (lineOf_absent_noop (by simp [hc, DeviceCount.toNat]) hn)

/-! ## The lines of a state -/

@[simp] theorem allOnes_count_false (p : Params) : (allOnes p).count false = 0 := by
  simp [allOnes, List.count_replicate]

/-- A device's line is the only one asserted with it (R92 to R95). -/
theorem linesWith_count_false_le (p : Params) (dev : DevIdx) : (linesWith p dev).count false ≤ 1 := by
  unfold linesWith
  cases h : lineOf p dev with
  | none => simp
  | some l =>
    have hl : l < (allOnes p).length := by simpa using lineOf_lt h
    simp [List.count_set hl]

theorem State.Inv.csN_count_false_le {s : State} (hi : s.Inv) : s.csN.count false ≤ 1 := by
  rw [hi.lines, State.linesOfFsm]
  split
  · exact linesWith_count_false_le _ _
  · simp

/-- Settles O10: the lines are those of the `fsm`, one device's or none, and in IDLE none (`State.Inv.idle_rests`). -/
theorem atMostOneLineIsAsserted : Obligations.AtMostOneLineIsAsserted := by
  refine fun s hi => ⟨hi.csN_length, hi.csN_count_false_le, fun hf => ?_⟩
  rw [(hi.idle_rests hf).1]
  exact allOnes_count_false _

end Sys2Proof.Machine
end

section
/-! PROOFS of 41_conversion_sequencer: the cycles of a START_ALL, and its run from acceptance to answer. -/

namespace Sys2Proof.Machine

/-! ## The line of a physical device -/

theorem driveLine_physical {p : Params} {d : DevIdx} (h : d.toNat < p.deviceCount.toNat) (active : Bool)
    (lines : List Bool) : driveLine p d active lines = lines.set d.toNat (!active) := by
  simp [driveLine, lineOf_physical h]

theorem linesWith_physical {p : Params} {d : DevIdx} (h : d.toNat < p.deviceCount.toNat) :
    linesWith p d = (allOnes p).set d.toNat false := by
  rw [← driveLine_assert, driveLine_physical h, Bool.not_true]

theorem selectLine_physical {s : State} {d : DevIdx} (h : d.toNat < s.params.deviceCount.toNat) (active : Bool) :
    s.selectLine d active = { s with csN := s.csN.set d.toNat (!active) } := by
  rw [State.selectLine, driveLine_physical h]

/-- A device that is not the last is device 0, so the next index does not wrap (R9, R40). -/
theorem toNat_nextDev {n : DeviceCount} {d : DevIdx} (h : d.toNat + 1 < n.toNat) : (d + 1).toNat = d.toNat + 1 := by
  have hn : n.toNat ≤ 2 := by cases n <;> decide
  rw [BitVec.toNat_add, show (1 : DevIdx).toNat = 1 from rfl]
  omega

/-! ## The acceptance cycle -/

theorem exec_startAll_allowed {s : State} (hp : s.phase ≠ .unconfigured) : exec .startAll s = .next
    { s with curDev := 0, csN := s.csN.set 0 true, dlyCnt := s.params.cSettle - 1, fsm := .saDesel } := by
  have hallow : phaseAllows s.phase .startAll = true := by simpa [phaseAllows] using hp
  have hline : { s with curDev := 0 }.selectLine 0 false = { s with curDev := 0, csN := s.csN.set 0 true } :=
    selectLine_physical (s := { s with curDev := 0 }) (d := 0) (DeviceCount.toNat_pos _) false
  simp only [exec, execStartAll, hallow, if_true, hline, State.enterWait]

theorem exec_startAll_refused {s : State} (hp : s.phase = .unconfigured) :
    exec .startAll s = .next s.refuseOrder := by
  simp [exec, execStartAll, phaseAllows, hp]

/-- Settles O19: the phase check decides, and line 0 exists in every block. -/
theorem startAllAcceptanceEffect : Obligations.StartAllAcceptanceEffect :=
  fun _ => ⟨exec_startAll_allowed, exec_startAll_refused⟩

/-- The cycle that accepts a START_ALL runs it on a state whose byte engine rests (R59, R135). -/
theorem step_accept_startAll {s : State} (hi : s.Inv) (ha : s.accepts 0x20) :
    step s = andThen (exec .startAll s.clearPulses) fun t => .next (s.endCycle t) := by
  have hx : s.xferActive = false := (hi.atRest (by simp [ha.1, Fsm.inByte])).1
  rw [step_accept (i := .startAll) ha rfl, beginCycle_rest hx]

/-! ## The three wait states -/

theorem Fsm.inStartAll_iff {f : Fsm} : f.inStartAll = true ↔ f = .saDesel ∨ f = .saAssert ∨ f = .saConv := by
  cases f <;> simp [Fsm.inStartAll]

/-- The last cycle of a wait state of START_ALL: the byte engine rests, so the pulses fall and the state is left (R23, R102). -/
theorem State.Inv.beginCycle_wait_over {leave : State → State} {s : State} (hi : s.Inv)
    (hf : s.fsm.inStartAll = true) (hd : s.dlyCnt = 0) : s.beginCycle.wait leave = leave s.clearPulses := by
  have hb : s.fsm.inByte = false := by rcases Fsm.inStartAll_iff.1 hf with h | h | h <;> rw [h] <;> rfl
  rw [beginCycle_rest (hi.atRest hb).1]
  exact wait_over hd

theorem endSaDesel_eq {s : State} (h : s.curDev.toNat < s.params.deviceCount.toNat) : s.endSaDesel =
    { s with csN := s.csN.set s.curDev.toNat false, dlyCnt := s.params.cStart - 1, fsm := .saAssert } := by
  rw [State.endSaDesel, selectLine_physical h]
  rfl

theorem endSaAssert_eq {s : State} (h : s.curDev.toNat < s.params.deviceCount.toNat) : s.endSaAssert =
    { s with csN := s.csN.set s.curDev.toNat true, dlyCnt := s.params.cConv - 1, fsm := .saConv } := by
  rw [State.endSaAssert, selectLine_physical h]
  rfl

theorem endSaConv_next {s : State} (h : s.curDev.toNat + 1 < s.params.deviceCount.toNat) : s.endSaConv =
    { s with curDev := s.curDev + 1, dlyCnt := s.params.cSettle - 1, fsm := .saDesel } := if_pos h

theorem endSaConv_last {s : State} (h : ¬ s.curDev.toNat + 1 < s.params.deviceCount.toNat) : s.endSaConv =
    { s with rspValid := true, rspStatus := 0b00, rspData := 0x0000, phase := .started, fsm := .idle } := if_neg h

/-- The last cycle of SA_DESEL (R97). -/
theorem step_saDesel_over {s : State} (hi : s.Inv) (hr : s.inputs.rst = false) (hf : s.fsm = .saDesel)
    (hd : s.dlyCnt = 0) : step s = .next (s.endCycle
      { s with
        rspValid := false, faultValid := false, csN := s.csN.set s.curDev.toNat false
        dlyCnt := s.params.cStart - 1, fsm := .saAssert }) := by
  have hin : s.fsm.inStartAll = true := hf ▸ rfl
  rw [step_saDesel hr hf, State.saDesel, hi.beginCycle_wait_over hin hd,
    endSaDesel_eq (s := s.clearPulses) (hi.startDev hin)]
  rfl

/-- The last cycle of SA_ASSERT (R98). -/
theorem step_saAssert_over {s : State} (hi : s.Inv) (hr : s.inputs.rst = false) (hf : s.fsm = .saAssert)
    (hd : s.dlyCnt = 0) : step s = .next (s.endCycle
      { s with
        rspValid := false, faultValid := false, csN := s.csN.set s.curDev.toNat true
        dlyCnt := s.params.cConv - 1, fsm := .saConv }) := by
  have hin : s.fsm.inStartAll = true := hf ▸ rfl
  rw [step_saAssert hr hf, State.saAssert, hi.beginCycle_wait_over hin hd,
    endSaAssert_eq (s := s.clearPulses) (hi.startDev hin)]
  rfl

/-- The last cycle of SA_CONV for a device that is not the last (R99). -/
theorem step_saConv_next {s : State} (hi : s.Inv) (hr : s.inputs.rst = false) (hf : s.fsm = .saConv)
    (hd : s.dlyCnt = 0) (hnext : s.curDev.toNat + 1 < s.params.deviceCount.toNat) : step s = .next (s.endCycle
      { s with
        rspValid := false, faultValid := false, curDev := s.curDev + 1
        dlyCnt := s.params.cSettle - 1, fsm := .saDesel }) := by
  rw [step_saConv hr hf, State.saConv, hi.beginCycle_wait_over (hf ▸ rfl) hd,
    endSaConv_next (s := s.clearPulses) hnext]
  rfl

/-- The last cycle of SA_CONV for the last device (R100). -/
theorem step_saConv_last {s : State} (hi : s.Inv) (hr : s.inputs.rst = false) (hf : s.fsm = .saConv)
    (hd : s.dlyCnt = 0) (hlast : ¬ s.curDev.toNat + 1 < s.params.deviceCount.toNat) : step s = .next (s.endCycle
      { s with
        faultValid := false, phase := .started, rspValid := true, rspStatus := 0b00, rspData := 0x0000
        fsm := .idle }) := by
  rw [step_saConv hr hf, State.saConv, hi.beginCycle_wait_over (hf ▸ rfl) hd,
    endSaConv_last (s := s.clearPulses) hlast]
  rfl

/-- Settles O35: SA_DESEL holds every line at rest, SA_ASSERT the line of `cur_dev`, which exists. -/
theorem startAllStatesDriveTheLine : Obligations.StartAllStatesDriveTheLine := by
  refine fun s hi hr => ⟨fun hf => ⟨?desel, step_saDesel_over hi hr hf⟩,
    fun hf => ⟨?asserted, step_saAssert_over hi hr hf⟩⟩
  case desel =>
    have hdev := hi.startDev (hf ▸ rfl)
    rw [hi.csN_rest (hf ▸ rfl) (by simp [hf])]
    simp [allOnes, hdev]
  case asserted =>
    have hdev := hi.startDev (hf ▸ rfl)
    rw [hi.csN_asserted (.inr hf), linesWith_physical hdev]
    simp [hdev]

/-- Settles O36: SA_CONV holds every line at rest, and its end asks whether `cur_dev` is the last device. -/
theorem startAllMovesOnOrCompletes : Obligations.StartAllMovesOnOrCompletes :=
  fun _ hi hr hf => ⟨hi.csN_rest (hf ▸ rfl) (by simp [hf]), step_saConv_next hi hr hf, step_saConv_last hi hr hf⟩

/-! ## What a START_ALL leaves alone -/

/-- From s to t nothing of the reader, the windows, the lock or the block is written, and no fault event is raised (R102). -/
structure State.KeepsReader (s t : State) : Prop where
  params : t.params = s.params
  windows : t.windows = s.windows
  sr : t.sr = s.sr
  rxByte : t.rxByte = s.rxByte
  bitCnt : t.bitCnt = s.bitCnt
  divCnt : t.divCnt = s.divCnt
  xferActive : t.xferActive = s.xferActive
  xferDone : t.xferDone = s.xferDone
  sck : t.sck = s.sck
  busLock : t.busLock = s.busLock
  faultValid : t.faultValid = false
  faultCode : t.faultCode = s.faultCode

theorem accept_startAll_keepsReader {s : State} (hi : s.Inv) (ha : s.accepts 0x20) :
    ∃ t, step s = .next t ∧ s.KeepsReader t := by
  rw [step_accept_startAll hi ha]
  by_cases hp : s.phase = .unconfigured
  · rw [exec_startAll_refused (by simpa using hp)]
    exact ⟨_, rfl, by constructor <;> rfl⟩
  · rw [exec_startAll_allowed (by simpa using hp)]
    exact ⟨_, rfl, by constructor <;> rfl⟩

theorem step_inStartAll_keepsReader {s : State} (hi : s.Inv) (hr : s.inputs.rst = false)
    (hf : s.fsm.inStartAll = true) : ∃ t, step s = .next t ∧ s.KeepsReader t := by
  have hstate := Fsm.inStartAll_iff.1 hf
  by_cases hd : s.dlyCnt = 0
  · rcases hstate with hf | hf | hf
    · exact ⟨_, step_saDesel_over hi hr hf hd, by constructor <;> rfl⟩
    · exact ⟨_, step_saAssert_over hi hr hf hd, by constructor <;> rfl⟩
    · by_cases hnext : s.curDev.toNat + 1 < s.params.deviceCount.toNat
      · exact ⟨_, step_saConv_next hi hr hf hd hnext, by constructor <;> rfl⟩
      · exact ⟨_, step_saConv_last hi hr hf hd hnext, by constructor <;> rfl⟩
  · obtain ⟨ws, hws, hstep⟩ := step_wait_on hi hr hd (.inr (.inr hstate))
    obtain rfl := hws (by rintro h; simp [h] at hstate)
    exact ⟨_, hstep, by constructor <;> rfl⟩

theorem step_keepsReader {s t : State} (hi : s.Inv) (hr : s.inputs.rst = false)
    (hf : s.accepts 0x20 ∨ s.fsm.inStartAll = true) (h : step s = .next t) : s.KeepsReader t := by
  obtain ⟨u, hu, hk⟩ := hf.elim (accept_startAll_keepsReader hi) (step_inStartAll_keepsReader hi hr)
  obtain rfl : t = u := by simpa [h] using hu
  exact hk

/-- Settles O46: each cycle keeps the reader, and the lock is low outside a READ. -/
theorem startAllLeavesTheReaderAlone : Obligations.StartAllLeavesTheReaderAlone := by
  intro s t hi hr h hf
  have hk := step_keepsReader hi hr (hf.imp_right Fsm.inStartAll_iff.2) h
  have hlock : s.busLock = false := by
    rw [hi.busLock]
    rcases hf with ⟨hf, -⟩ | hf | hf | hf <;> rw [hf] <;> rfl
  exact ⟨hk.windows, hk.sr, hk.rxByte, hk.bitCnt, hk.divCnt, hk.xferActive, hk.xferDone, hk.sck,
    hk.busLock.trans hlock, hk.faultValid⟩

/-! ## The lines in cycle c of a START_ALL (R103) -/

/-- Cycle c lies in the assertion of device e, its C_START cycles of SA_ASSERT. -/
def startAllAsserts (p : Params) (e c : Nat) : Prop :=
  e * startAllSpan p + p.cSettle + 1 ≤ c ∧ c ≤ e * startAllSpan p + p.cSettle + p.cStart

theorem startAllLines_get {p : Params} {e : Nat} (he : e < p.deviceCount.toNat) (c : Nat) :
    (startAllLines p c)[e]? =
      some (!(decide (e * startAllSpan p + p.cSettle + 1 ≤ c) &&
        decide (c ≤ e * startAllSpan p + p.cSettle + p.cStart))) := by
  simp [startAllLines, he]

theorem startAllLines_asserted {p : Params} {e c : Nat} (he : e < p.deviceCount.toNat)
    (h : startAllAsserts p e c) : (startAllLines p c)[e]? = some false := by
  obtain ⟨hlo, hhi⟩ := h
  simp [startAllLines_get he, hlo, hhi]

theorem startAllLines_deasserted {p : Params} {e c : Nat} (he : e < p.deviceCount.toNat)
    (h : ¬ startAllAsserts p e c) : (startAllLines p c)[e]? = some true := by
  rw [startAllLines_get he, ← Bool.decide_and, decide_eq_false (by exact h), Bool.not_false]

/-- The lines of a cycle, from what each device's line is in it. -/
theorem eq_startAllLines {p : Params} {c : Nat} {lines : List Bool} (hlen : lines.length = p.deviceCount.toNat)
    (h : ∀ e < p.deviceCount.toNat, lines[e]? = (startAllLines p c)[e]?) : lines = startAllLines p c := by
  refine List.ext_getElem? fun e => ?_
  by_cases he : e < p.deviceCount.toNat
  · exact h e he
  · rw [List.getElem?_eq_none (by omega), List.getElem?_eq_none (by simp [startAllLines]; omega)]

theorem allOnes_eq_startAllLines {p : Params} {c : Nat}
    (h : ∀ e < p.deviceCount.toNat, ¬ startAllAsserts p e c) : allOnes p = startAllLines p c :=
  eq_startAllLines (allOnes_length p) fun e he => by
    rw [startAllLines_deasserted he (h e he)]
    simp [allOnes, he]

theorem set_eq_startAllLines {p : Params} {d c : Nat} (h : startAllAsserts p d c)
    (hother : ∀ e, startAllAsserts p e c → e = d) : (allOnes p).set d false = startAllLines p c :=
  eq_startAllLines (by simp) fun e he => by
    by_cases hed : d = e
    · subst hed
      rw [startAllLines_asserted he h]
      simp [he]
    · rw [startAllLines_deasserted he (fun h => hed (hother e h).symm)]
      simp [hed, allOnes, he]

/-- The spans of two devices do not overlap: a cycle of the span of d asserts no other device. -/
theorem startAllAsserts_dev {p : Params} {d e c : Nat} (hlo : d * startAllSpan p < c)
    (hhi : c ≤ (d + 1) * startAllSpan p) (h : startAllAsserts p e c) : e = d := by
  obtain ⟨hle, hge⟩ := h
  have hspan : startAllSpan p = p.cSettle + p.cStart + p.cConv := rfl
  rcases Nat.lt_trichotomy e d with hlt | heq | hgt
  · have hbefore : (e + 1) * startAllSpan p ≤ d * startAllSpan p := Nat.mul_le_mul_right _ hlt
    rw [Nat.succ_mul] at hbefore
    omega
  · exact heq
  · have hafter : (d + 1) * startAllSpan p ≤ e * startAllSpan p := Nat.mul_le_mul_right _ hgt
    omega

/-! ## Where a START_ALL stands -/

/-- The cycles of a device's span before the sequencer enters a state of START_ALL (R97 to R99). -/
def startAllBefore (p : Params) : Fsm → Nat
  | .saAssert => p.cSettle
  | .saConv => p.cSettle + p.cStart
  | _ => 0

/-- The cycles the sequencer stays in a state of START_ALL (R97 to R99). -/
def startAllStay (p : Params) : Fsm → Nat
  | .saDesel => p.cSettle
  | .saAssert => p.cStart
  | .saConv => p.cConv
  | _ => 0

/-- The last cycle of a START_ALL accepted in cycle 0, the one before its answer (R103). -/
def startAllEnd (p : Params) : Nat := p.deviceCount.toNat * startAllSpan p

/-- Where the core stands c cycles after the cycle that accepts a START_ALL: in that cycle, in a wait state whose count says how many cycles of it are left, or at the answer. -/
inductive StartAllStage (c : Nat) (s : State) : Prop
  | accepting (hc : c = 0) (ha : s.accepts 0x20) (hp : s.phase ≠ .unconfigured)
  | waiting (hf : s.fsm.inStartAll = true) (hstay : s.dlyCnt < startAllStay s.params s.fsm)
      (hc : c + s.dlyCnt =
        s.curDev.toNat * startAllSpan s.params + startAllBefore s.params s.fsm + startAllStay s.params s.fsm)
  | answered (hc : c = startAllEnd s.params + 1) (hf : s.fsm = .idle) (hp : s.phase = .started)
      (hv : s.rspValid = true) (hst : s.rspStatus = 0b00) (hdata : s.rspData = 0x0000) (hfv : s.faultValid = false)

theorem startAllStage_fits (p : Params) {f : Fsm} (hf : f.inStartAll = true) :
    startAllBefore p f + startAllStay p f ≤ startAllSpan p := by
  rcases Fsm.inStartAll_iff.1 hf with rfl | rfl | rfl <;> simp only [startAllBefore, startAllStay, startAllSpan] <;> omega

theorem succ_mul_span_le_end {p : Params} {d : Nat} (h : d < p.deviceCount.toNat) :
    (d + 1) * startAllSpan p ≤ startAllEnd p :=
  Nat.mul_le_mul_right _ h

/-- A waiting cycle lies in the span of `cur_dev`, so before the answer. -/
theorem waiting_bounds {c : Nat} {s : State} (hi : s.Inv) (hf : s.fsm.inStartAll = true)
    (hstay : s.dlyCnt < startAllStay s.params s.fsm)
    (hc : c + s.dlyCnt =
      s.curDev.toNat * startAllSpan s.params + startAllBefore s.params s.fsm + startAllStay s.params s.fsm) :
    s.curDev.toNat * startAllSpan s.params < c ∧ c ≤ (s.curDev.toNat + 1) * startAllSpan s.params ∧
    c ≤ startAllEnd s.params := by
  have hfits := startAllStage_fits s.params hf
  have hend := succ_mul_span_le_end (hi.startDev hf)
  rw [Nat.succ_mul] at hend ⊢
  omega

/-- A wait state is entered with its length less one (R23). -/
theorem StartAllStage.enter {c : Nat} {s : State} (hf : s.fsm.inStartAll = true)
    (hpos : 0 < startAllStay s.params s.fsm) (hn : s.dlyCnt = startAllStay s.params s.fsm - 1)
    (hc : c = s.curDev.toNat * startAllSpan s.params + startAllBefore s.params s.fsm) : StartAllStage (c + 1) s :=
  .waiting hf (by omega) (by omega)

/-- In every cycle the lines are those R103 gives. -/
theorem StartAllStage.lines {c : Nat} {s : State} (hst : StartAllStage c s) (hi : s.Inv) :
    s.csN = startAllLines s.params c := by
  cases hst with
  | accepting hc ha hp =>
    rw [(hi.idle_rests ha.1).1]
    refine allOnes_eq_startAllLines fun e he h => ?_
    obtain ⟨hle, -⟩ := h
    omega
  | answered hc hf hp hv hst hdata hfv =>
    rw [(hi.idle_rests hf).1]
    refine allOnes_eq_startAllLines fun e he h => ?_
    obtain ⟨-, hge⟩ := h
    have hend := succ_mul_span_le_end he
    have hspan : startAllSpan s.params = s.params.cSettle + s.params.cStart + s.params.cConv := rfl
    rw [Nat.succ_mul] at hend
    omega
  | waiting hf hstay hc =>
    obtain ⟨hlo, hhi, -⟩ := waiting_bounds hi hf hstay hc
    have honly (e : Nat) : startAllAsserts s.params e c → e = s.curDev.toNat := startAllAsserts_dev hlo hhi
    have hdev := hi.startDev hf
    rcases Fsm.inStartAll_iff.1 hf with hf | hf | hf <;> rw [hf] at hstay hc <;>
      simp only [startAllBefore, startAllStay] at hstay hc
    · rw [hi.csN_rest (hf ▸ rfl) (by simp [hf])]
      refine allOnes_eq_startAllLines fun e he h => ?_
      obtain rfl := honly e h
      obtain ⟨hle, -⟩ := h
      omega
    · rw [hi.csN_asserted (.inr hf), linesWith_physical hdev]
      exact set_eq_startAllLines ⟨by omega, by omega⟩ honly
    · rw [hi.csN_rest (hf ▸ rfl) (by simp [hf])]
      refine allOnes_eq_startAllLines fun e he h => ?_
      obtain rfl := honly e h
      obtain ⟨-, hge⟩ := h
      omega

/-- One cycle of a START_ALL leads to the stage of the next. -/
theorem StartAllStage.next {c : Nat} {s : State} (hst : StartAllStage c s) (hi : s.Inv)
    (hr : s.inputs.rst = false) (hc : c ≤ startAllEnd s.params) :
    ∃ t, step s = .next t ∧ StartAllStage (c + 1) t := by
  obtain ⟨-, hsettle, hstart, hconv, -⟩ := Params.of_wf hi.params
  cases hst with
  | answered hc' => omega
  | accepting hc' ha hp =>
    rw [step_accept_startAll hi ha, exec_startAll_allowed (by simpa using hp)]
    exact ⟨_, rfl, .enter rfl hsettle rfl (by simpa [startAllBefore] using hc')⟩
  | waiting hf hstay hc' =>
    have hstate := Fsm.inStartAll_iff.1 hf
    by_cases hd : s.dlyCnt = 0
    · have hc' : c = s.curDev.toNat * startAllSpan s.params + startAllBefore s.params s.fsm +
          startAllStay s.params s.fsm := by omega
      rcases hstate with hf | hf | hf <;> rw [hf] at hc'
      · exact ⟨_, step_saDesel_over hi hr hf hd, .enter rfl hstart rfl hc'⟩
      · exact ⟨_, step_saAssert_over hi hr hf hd, .enter rfl hconv rfl (hc'.trans (Nat.add_assoc _ _ _))⟩
      · have hspan : c = (s.curDev.toNat + 1) * startAllSpan s.params := by
          rw [hc', Nat.succ_mul, Nat.add_assoc]
          rfl
        by_cases hnext : s.curDev.toNat + 1 < s.params.deviceCount.toNat
        · refine ⟨_, step_saConv_next hi hr hf hd hnext, .enter rfl hsettle rfl ?_⟩
          rw [hspan, ← toNat_nextDev hnext]
          rfl
        · have hlast : s.params.deviceCount.toNat = s.curDev.toNat + 1 := by
            have := hi.startDev (hf ▸ rfl)
            omega
          refine ⟨_, step_saConv_last hi hr hf hd hnext, .answered (congrArg (· + 1) ?_) rfl rfl rfl rfl rfl rfl⟩
          rw [hspan, ← hlast]
          rfl
    · obtain ⟨ws, -, hstep⟩ := step_wait_on hi hr hd (.inr (.inr hstate))
      have hstay' : s.dlyCnt - 1 < startAllStay s.params s.fsm := by omega
      have hc'' : c + 1 + (s.dlyCnt - 1) = c + s.dlyCnt := by omega
      exact ⟨_, hstep, .waiting hf hstay' (hc''.trans hc')⟩

theorem StartAllStage.inStartAll {c : Nat} {s : State} (hst : StartAllStage c s) (hc : c ≤ startAllEnd s.params) :
    s.accepts 0x20 ∨ s.fsm.inStartAll = true := by
  cases hst with
  | accepting hc' ha hp => exact .inl ha
  | waiting hf hstay hc' => exact .inr hf
  | answered hc' => omega

/-! ## The sensors of a START_ALL (R101) -/

/-- The last cycle of SA_ASSERT of device e: its line rises at the end of it (R98, R103). -/
def startAllRise (p : Params) (e : Nat) : Nat := e * startAllSpan p + p.cSettle + p.cStart

/-- In cycle c the record of every sensor whose line has risen counts the cycles since it rose. -/
def State.countsFromRise (c : Nat) (s : State) : Prop :=
  ∀ (e : Nat) (x : Sensor), s.sensors[e]? = some x → startAllRise s.params e < c →
    x.inFlight = true ∧ c = startAllRise s.params e + 1 + x.sinceEdge

/-- The lines of R103 in two cycles, and R56's record between them. -/
theorem countsFromRise_next {c : Nat} {s t : State} (hi : s.Inv) (h : step s = .next t)
    (hs : s.csN = startAllLines s.params c) (ht : t.csN = startAllLines s.params (c + 1))
    (hcount : s.countsFromRise c) : t.countsFromRise (c + 1) := by
  obtain ⟨-, -, hstart, -⟩ := Params.of_wf hi.params
  obtain ⟨-, -, hsensors⟩ := step_environment h
  intro e y hy hrise
  rw [step_params h] at hrise ⊢
  obtain ⟨x, hx⟩ : ∃ x, s.sensors[e]? = some x := by
    rw [hsensors, tickSensors_get, Option.map_eq_some_iff] at hy
    exact hy.imp fun _ hx => hx.1
  have he : e < s.params.deviceCount.toNat := hi.sensors ▸ (List.getElem?_eq_some_iff.1 hx).1
  obtain ⟨hedge, hheld⟩ := risingLineStartsAConversion s t e x hi h hx
  rw [hs, ht] at hedge hheld
  rcases Nat.lt_succ_iff_lt_or_eq.1 hrise with hlt | heq
  · have hdone : (startAllLines s.params c)[e]? = some true := startAllLines_deasserted he fun ha => by
      obtain ⟨-, hge⟩ := ha
      unfold startAllRise at hlt
      omega
    rw [hheld (by simp [hdone]), Option.some.injEq] at hy
    obtain ⟨hflight, hc⟩ := hcount e x hx hlt
    subst hy
    simp only [hflight, if_true, true_and]
    omega
  · unfold startAllRise at heq ⊢
    have hlow := startAllLines_asserted (c := c) he ⟨by omega, by omega⟩
    have hhigh := startAllLines_deasserted (c := c + 1) he fun ha => by obtain ⟨-, hge⟩ := ha; omega
    rw [hedge hlow hhigh, Option.some.injEq] at hy
    subst hy
    exact ⟨rfl, by simp [heq]⟩

/-! ## The run of a START_ALL -/

/-- What holds c cycles after s₀, a state that accepts a START_ALL the phase check lets pass. -/
structure StartAllAt (s₀ : State) (c : Nat) (s : State) : Prop where
  inv : s.Inv
  stage : StartAllStage c s
  sensors : s.countsFromRise c
  params : s.params = s₀.params
  windows : s.windows = s₀.windows
  faultCode : s.faultCode = s₀.faultCode

theorem startAllAt_accepting {s : State} (hi : s.Inv) (ha : s.accepts 0x20) (hp : s.phase ≠ .unconfigured) :
    StartAllAt s 0 s where
  inv := hi
  stage := .accepting rfl ha hp
  sensors := fun _ _ _ h => absurd h (Nat.not_lt_zero _)
  params := rfl
  windows := rfl
  faultCode := rfl

theorem StartAllAt.next {s₀ s : State} {c : Nat} (h : StartAllAt s₀ c s) (hc : c < startAllEnd s₀.params + 1)
    (hr : s.inputs.rst = false) : ∃ t, step s = .next t ∧ StartAllAt s₀ (c + 1) t := by
  have hle : c ≤ startAllEnd s.params := by rw [h.params]; omega
  obtain ⟨t, ht, hstage⟩ := h.stage.next h.inv hr hle
  have hk := step_keepsReader h.inv hr (h.stage.inStartAll hle) ht
  have hinv := step_keeps_inv h.inv ht
  have hlines : t.csN = startAllLines s.params (c + 1) := hk.params ▸ hstage.lines hinv
  exact ⟨t, ht,
    { inv := hinv
      stage := hstage
      sensors := countsFromRise_next h.inv ht (h.stage.lines h.inv) hlines h.sensors
      params := hk.params.trans h.params
      windows := hk.windows.trans h.windows
      faultCode := hk.faultCode.trans h.faultCode }⟩

/-- A property of the cycle's number that every cycle before cycle N without `rst` hands on holds in every cycle up to N of a run without reset: the induction, once. -/
theorem runFor_hands_on {P : Nat → State → Prop} {N : Nat}
    (hP : ∀ c s, P c s → c < N → s.inputs.rst = false → ∃ t, step s = .next t ∧ P (c + 1) t) (n : Nat) :
    ∀ {c : Nat} {s : State}, P c s → c + n ≤ N → s.noReset n → ∃ t, runFor n s = .next t ∧ P (c + n) t := by
  induction n with
  | zero => exact fun h _ _ => ⟨_, rfl, h⟩
  | succ n ih =>
    intro c s h hN hr
    obtain ⟨t, ht, hp⟩ := hP c s h (by omega) (inputAt_zero s ▸ hr 0 n.succ_pos)
    obtain ⟨u, hu, hpu⟩ := ih hp (by omega) (noReset_step ht hr)
    refine ⟨u, by rw [runFor_succ, ht]; exact hu, ?_⟩
    rwa [Nat.add_right_comm] at hpu

/-- In every cycle of a START_ALL, from its acceptance to its answer. -/
theorem startAll_runs {s : State} {c : Nat} (hi : s.Inv) (ha : s.accepts 0x20) (hp : s.phase ≠ .unconfigured)
    (hc : c ≤ startAllEnd s.params + 1) (hr : s.noReset c) : ∃ t, runFor c s = .next t ∧ StartAllAt s c t := by
  have hrun := runFor_hands_on (P := StartAllAt s) (N := startAllEnd s.params + 1) (fun _ _ h => h.next) c
    (startAllAt_accepting hi ha hp) (by omega) hr
  rwa [Nat.zero_add] at hrun

/-- After the last cycle no stage but the answer is left. -/
theorem StartAllAt.answer {s₀ s : State} (h : StartAllAt s₀ (startAllEnd s₀.params + 1) s) :
    s.fsm = .idle ∧ s.phase = .started ∧ s.rspValid = true ∧ s.rspStatus = 0b00 ∧ s.rspData = 0x0000 ∧
    s.faultValid = false := by
  cases h.stage with
  | accepting hc => omega
  | waiting hf hstay hc =>
    obtain ⟨-, -, hend⟩ := waiting_bounds h.inv hf hstay hc
    rw [h.params] at hend
    omega
  | answered hc hf hp hv hst hdata hfv => exact ⟨hf, hp, hv, hst, hdata, hfv⟩

/-- Settles O49: the run ends in the stage of the answer. -/
theorem startAllCompletesOnTime : Obligations.StartAllCompletesOnTime := by
  intro s hi ha hp hr
  obtain ⟨t, ht, hat⟩ := startAll_runs hi ha hp le_rfl hr
  obtain ⟨hf, hph, hv, hst, hdata, hfv⟩ := hat.answer
  exact ⟨t, ht, hf, hph, hv, hst, hdata, hfv, hat.faultCode, hat.windows, hat.params ▸ (hat.inv.idle_rests hf).1⟩

/-- Settles O50: the stage of cycle c fixes its lines. -/
theorem startAllAssertsEachLineInTurn : Obligations.StartAllAssertsEachLineInTurn := by
  intro s c hi ha hp hc hr
  obtain ⟨t, ht, hat⟩ := startAll_runs hi ha hp hc hr
  exact ⟨t, ht, hat.params ▸ hat.stage.lines hat.inv⟩

/-- Settles O51: at the answer every line has risen, the last of them C_CONV cycles before the last cycle. -/
theorem sensorsConvertBeforeStartAllAnswers : Obligations.SensorsConvertBeforeStartAllAnswers := by
  intro s hi ha hp hr
  obtain ⟨t, ht, hat⟩ := startAll_runs hi ha hp le_rfl hr
  obtain ⟨-, -, hv, -⟩ := hat.answer
  have hlen : t.sensors.length = s.params.deviceCount.toNat := hat.params ▸ hat.inv.sensors
  refine ⟨t, ht, hv, hlen, fun x hx => ?_⟩
  obtain ⟨e, he⟩ := List.getElem?_of_mem hx
  have hdev : e < s.params.deviceCount.toNat := hlen ▸ (List.getElem?_eq_some_iff.1 he).1
  have hend := succ_mul_span_le_end hdev
  have hspan : (e + 1) * startAllSpan s.params = startAllRise s.params e + s.params.cConv := by
    rw [Nat.succ_mul, startAllRise, startAllSpan]
    omega
  obtain ⟨hflight, hc⟩ := hat.sensors e x he (by rw [hat.params]; omega)
  rw [hat.params] at hc
  exact ⟨hflight, by omega⟩

end Sys2Proof.Machine
end

section
/-! PROOFS of 42_sample_reader: the cycles of a READ, the byte engine under the time-out, and the run from acceptance to answer. -/

namespace Sys2Proof.Machine

/-! ## The start of a READ -/

theorem exec_read_allowed {s : State} {dev : DevIdx} (hp : s.phase = .started) :
    exec (.read dev) s = .next (s.startRead dev) := by
  simp [exec, execRead, phaseAllows, hp]

theorem exec_read_refused {s : State} {dev : DevIdx} (hp : s.phase ≠ .started) :
    exec (.read dev) s = .next s.refuseOrder := by
  simp [exec, execRead, phaseAllows, hp]

/-- Settles O20: the phase check decides between the start of the transaction and ORDER. -/
theorem readAcceptanceEffect : Obligations.ReadAcceptanceEffect :=
  fun _ _ => ⟨exec_read_allowed, exec_read_refused⟩

/-- Settles O22: the meaning of XFER_BYTE is `startByte`. -/
theorem xferByteStartEffect : Obligations.XferByteStartEffect := fun _ => rfl

/-- Settles O23: the meaning of READ_RAW is `startRead`. -/
theorem readRawStartEffect : Obligations.ReadRawStartEffect := fun _ _ => rfl

/-- The cycle that accepts a READ starts it on a state whose byte engine rests (R59, R111, R135). -/
theorem step_accept_read {s : State} {dev : DevIdx} (hi : s.Inv) (ha : s.accepts (wordC8 0x3 dev))
    (hp : s.phase = .started) : step s = .next (s.endCycle (s.clearPulses.startRead dev)) := by
  have hx : s.xferActive = false := (hi.atRest (by simp [ha.1, Fsm.inByte])).1
  rw [step_accept ha ((commandWord (.read dev)).2 _ rfl), beginCycle_rest hx, exec_read_allowed (by simpa using hp)]
  rfl

/-! ## The states of the transaction -/

theorem Fsm.inByte_iff {f : Fsm} : f.inByte = true ↔ f = .byteMsb ∨ f = .byteLsb := by
  cases f <;> simp [Fsm.inByte]

theorem State.Inv.driveLine_release {s : State} (hi : s.Inv) (ht : s.fsm.inTransaction = true) :
    driveLine s.params s.curDev false s.csN = allOnes s.params := by
  rw [hi.csN_asserted (.inl ht), Machine.driveLine_release]

/-- A byte that is ready has left the engine at rest (R107). -/
theorem State.Inv.xferActive_of_done {s : State} (hi : s.Inv) (hf : s.fsm.inByte = true) (hd : s.xferDone = true) :
    s.xferActive = false := by
  simpa [hd] using hi.inByte hf

/-- A byte that is shifting is not ready, and the core waits for it (R59, R107). -/
theorem State.Inv.waits_of_active {s : State} (hi : s.Inv) (hx : s.xferActive = true) :
    s.fsm.inByte = true ∧ s.xferDone = false := by
  have hf : s.fsm.inByte = true := by
    by_contra hf
    simp [(hi.atRest (by simpa using hf)).1] at hx
  exact ⟨hf, by simpa [hx] using hi.inByte hf⟩

theorem setWidth_eq_lowByte (w : Word) : w.setWidth 8 = w.extractLsb' 0 8 :=
  BitVec.setWidth_eq_extractLsb' (by decide)

theorem setWidth_shift_eq_highByte (w : Word) : (w >>> 8).setWidth 8 = w.extractLsb' 8 8 :=
  BitVec.eq_of_toNat_eq (by simp)

/-- The last cycle of SELECTED (R112). -/
theorem step_selected_over {s : State} (hi : s.Inv) (hr : s.inputs.rst = false) (hf : s.fsm = .selected)
    (hd : s.dlyCnt = 0) : step s = .next (s.endCycle { s.clearPulses with fsm := .latched }) := by
  rw [step_selected hr hf, beginCycle_rest (hi.atRest (hf ▸ rfl)).1, State.selected, wait_over (by simpa using hd)]
  rfl

/-- LATCHED starts the MSB byte (R113). -/
theorem step_latched_starts {s : State} (hi : s.Inv) (hr : s.inputs.rst = false) (hf : s.fsm = .latched) :
    step s = .next (s.endCycle { s.clearPulses.startByte with toCnt := 0, fsm := .byteMsb }) := by
  rw [step_latched hr hf, beginCycle_rest (hi.atRest (hf ▸ rfl)).1]
  rfl

/-- A ready MSB byte is stored, and the LSB byte starts (R114). -/
theorem step_byteMsb_done {s : State} (hi : s.Inv) (hr : s.inputs.rst = false) (hf : s.fsm = .byteMsb)
    (hd : s.xferDone = true) : step s = .next (s.endCycle
      { s.clearPulses.startByte with
        sr := s.rxByte ++ s.sr.setWidth 8, xferDone := false, toCnt := 0, fsm := .byteLsb }) := by
  rw [step_byteMsb hr hf, beginCycle_rest (hi.xferActive_of_done (hf ▸ rfl) hd), hd, setWidth_eq_lowByte]
  rfl

/-- A ready LSB byte is stored, and the transaction ends (R115). -/
theorem step_byteLsb_done {s : State} (hi : s.Inv) (hr : s.inputs.rst = false) (hf : s.fsm = .byteLsb)
    (hd : s.xferDone = true) : step s = .next (s.endCycle
      { s.clearPulses with
        sr := (s.sr >>> 8).setWidth 8 ++ s.rxByte, xferDone := false
        csN := allOnes s.params, busLock := false, fsm := .deselected }) := by
  rw [step_byteLsb hr hf, beginCycle_rest (hi.xferActive_of_done (hf ▸ rfl) hd), hd, setWidth_shift_eq_highByte,
    ← hi.driveLine_release (hf ▸ rfl)]
  rfl

/-- Settles O37: one equation for each of the four states. -/
theorem readStatesMoveTheBytes : Obligations.ReadStatesMoveTheBytes :=
  fun _ hi hr => ⟨step_selected_over hi hr, step_latched_starts hi hr, step_byteMsb_done hi hr, step_byteLsb_done hi hr⟩

/-! ## A cycle that waits for its byte -/

/-- The time-out step of a cycle that begins in s does not abort, and leaves c in `to_cnt` (R116). -/
def State.countsTo (s : State) (c : Nat) : Prop :=
  (s.params.busTimeout = none → c = s.toCnt) ∧
  ∀ n, s.params.busTimeout = some n → s.toCnt < n - 1 ∧ c = s.toCnt + 1

/-- Where the time-out step does not abort, a waiting cycle is the byte engine's step and the count. -/
theorem step_waiting_counts {s : State} {c : Nat} (hr : s.inputs.rst = false) (hf : s.fsm.inByte = true)
    (hd : s.xferDone = false) (hc : s.countsTo c) :
    step s = .next (s.endCycle { s.beginCycle with toCnt := c }) := by
  obtain ⟨hnone, hsome⟩ := hc
  rw [step_waiting hr hf hd]
  cases hT : s.params.busTimeout with
  | none =>
    rw [timeoutStep_unbounded (by simpa using hT), hnone hT, ← beginCycle_toCnt]
  | some n =>
    obtain ⟨hlt, rfl⟩ := hsome n hT
    rw [timeoutStep_counts (n := n) (by simpa using hT) (by simpa using hlt), beginCycle_toCnt]

/-- With `to_cnt` at T − 1 the transfer is aborted, whatever the byte engine did in the cycle. -/
theorem step_waiting_aborts {s : State} {n : Nat} (hr : s.inputs.rst = false) (hf : s.fsm.inByte = true)
    (hd : s.xferDone = false) (hT : s.params.busTimeout = some n) (hc : s.toCnt = n - 1) :
    step s = .next (s.endCycle s.beginCycle.abort) := by
  rw [step_waiting hr hf hd, timeoutStep_aborts (n := n) (by simpa using hT) (by simp [hc])]

/-- Settles O38: the three cases of the time-out step; in a transaction the lock is held, and the line is the one `driveLine` releases. -/
theorem timeoutStepCountsAndAborts : Obligations.TimeoutStepCountsAndAborts := by
  intro s hi hr hf hd
  have hin : s.fsm.inByte = true := Fsm.inByte_iff.2 hf
  have ht := Fsm.inTransaction_of_inByte hin
  have hlock : s.busLock = true := hi.busLock.trans ht
  have hflag : s.toFlag = false := hi.toFlag_low (by rcases hf with h | h <;> simp [h])
  refine ⟨fun hT => ?held, fun n hT hlt => ?counts, fun n hT hc => ?aborts⟩
  case held =>
    have hcount : s.countsTo s.toCnt := ⟨fun _ => rfl, by simp [hT]⟩
    exact ⟨_, step_waiting_counts hr hin hd hcount, by simp [hlock, hflag]⟩
  case counts =>
    have hcount : s.countsTo (s.toCnt + 1) := ⟨by simp [hT], by simpa [hT] using hlt⟩
    exact ⟨_, step_waiting_counts hr hin hd hcount, by simp [hlock, hflag]⟩
  case aborts =>
    have hline := hi.driveLine_release ht
    exact ⟨_, step_waiting_aborts hr hin hd hT hc, by simp [State.abort, hline, allOnes]⟩

/-! ## The byte engine in a cycle -/

theorem setWidth_eq_lowBits (b : Byte) : b.setWidth 7 = b.extractLsb' 0 7 :=
  BitVec.setWidth_eq_extractLsb' (by decide)

section
variable {s : State}

theorem beginCycle_counts (ha : s.xferActive = true) (hb : s.inputs.busReady = true)
    (hd : s.divCnt ≠ s.params.sckDiv - 1) : s.beginCycle = { s.clearPulses with divCnt := s.divCnt + 1 } := by
  rw [State.beginCycle, hb]
  exact byteEngine_counts (s := s.clearPulses) ha hd

theorem beginCycle_rises (ha : s.xferActive = true) (hb : s.inputs.busReady = true)
    (hd : s.divCnt = s.params.sckDiv - 1) (hk : s.sck = false) :
    s.beginCycle =
      { s.clearPulses with
        divCnt := 0, sck := true, rxByte := s.rxByte.setWidth 7 ++ BitVec.ofBool s.inputs.miso } := by
  rw [State.beginCycle, hb, setWidth_eq_lowBits]
  exact byteEngine_rises (s := s.clearPulses) ha hd hk

theorem beginCycle_falls (ha : s.xferActive = true) (hb : s.inputs.busReady = true)
    (hd : s.divCnt = s.params.sckDiv - 1) (hk : s.sck = true) (hc : s.bitCnt ≠ 7) :
    s.beginCycle = { s.clearPulses with divCnt := 0, sck := false, bitCnt := s.bitCnt + 1 } := by
  rw [State.beginCycle, hb]
  exact byteEngine_falls (s := s.clearPulses) ha hd hk hc

theorem beginCycle_completes (ha : s.xferActive = true) (hb : s.inputs.busReady = true)
    (hd : s.divCnt = s.params.sckDiv - 1) (hk : s.sck = true) (hc : s.bitCnt = 7) :
    s.beginCycle =
      { s.clearPulses with divCnt := 0, sck := false, xferActive := false, xferDone := true } := by
  rw [State.beginCycle, hb]
  exact byteEngine_completes (s := s.clearPulses) ha hd hk hc

/-- A cycle changes `rx_byte` at the sample point only (R106). -/
theorem beginCycle_rxByte_held
    (h : ¬ (s.inputs.busReady = true ∧ s.divCnt = s.params.sckDiv - 1 ∧ s.sck = false)) :
    s.beginCycle.rxByte = s.rxByte := by
  by_cases hh : s.xferActive = false ∨ s.inputs.busReady = false
  · rw [State.beginCycle, byteEngine_holds (s := s.clearPulses) hh]
    rfl
  obtain ⟨ha, hb⟩ : s.xferActive = true ∧ s.inputs.busReady = true := by simpa using hh
  by_cases hd : s.divCnt = s.params.sckDiv - 1
  · have hk : s.sck = true := by simpa [hb, hd] using h
    by_cases hc : s.bitCnt = 7
    · rw [beginCycle_completes ha hb hd hk hc]
      rfl
    · rw [beginCycle_falls ha hb hd hk hc]
      rfl
  · rw [beginCycle_counts ha hb hd]
    rfl

end

/-- Settles O60: the five things the engine can do, under the count; or the abort over the engine's step. -/
theorem byteEngineStepsInEveryCycle : Obligations.ByteEngineStepsInEveryCycle := by
  intro s hi hr hx
  obtain ⟨hf, hd⟩ := hi.waits_of_active hx
  refine ⟨fun c hnone hsome => ?counts, fun n hT hc => ?aborts⟩
  case counts =>
    have hcount : s.countsTo c := ⟨hnone, fun n hT => by
      have hlt := hi.toCnt n hT
      obtain ⟨hne, hc⟩ := hsome n hT
      omega⟩
    rw [step_waiting_counts hr hf hd hcount]
    refine ⟨fun hb => ?_, fun hb hdiv => ?_, fun hb hdiv hk => ?_, fun hb hdiv hk hbit => ?_, fun hb hdiv hk hbit => ?_⟩
    · rw [beginCycle_stalled hb]; rfl
    · rw [beginCycle_counts hx hb hdiv]; rfl
    · rw [beginCycle_rises hx hb hdiv hk]; rfl
    · rw [beginCycle_falls hx hb hdiv hk hbit]; rfl
    · rw [beginCycle_completes hx hb hdiv hk hbit]; rfl
  case aborts =>
    refine ⟨_, step_waiting_aborts hr hf hd hT hc, rfl, rfl, rfl, rfl, rfl, rfl, rfl, ?sampled, beginCycle_rxByte_held⟩
    rintro ⟨hb, hdiv, hk⟩
    show s.beginCycle.rxByte = _
    rw [beginCycle_rises hx hb hdiv hk]

/-! ## What holds along a run -/

theorem runFor_append {m n : Nat} {s t u : State} (h : runFor m s = .next t) (h' : runFor n t = .next u) :
    runFor (m + n) s = .next u := by
  rw [runFor_add, h]
  exact h'

theorem runFor_snoc {n : Nat} {s t u : State} (h : runFor n s = .next t) (h' : step t = .next u) :
    runFor (n + 1) s = .next u :=
  runFor_append h (by rw [runFor_succ, h']; rfl)

theorem runFor_inv {n : Nat} {s t : State} (hi : s.Inv) (h : runFor n s = .next t) : t.Inv := by
  obtain ⟨u, hu, hinv⟩ := runFor_keeps (P := State.Inv)
    (fun s hi => (step_next hi).imp fun t ht => ⟨ht, step_keeps_inv hi ht⟩) n hi
  obtain rfl : t = u := by simpa [h] using hu
  exact hinv

theorem runFor_params {n : Nat} {s t : State} (h : runFor n s = .next t) : t.params = s.params := by
  induction n generalizing s with
  | zero => injection h with h; rw [h]
  | succ n ih =>
    rw [runFor_succ, andThen_eq_next] at h
    obtain ⟨u, hu, ht⟩ := h
    exact (ih ht).trans (step_params hu)

/-- The inputs a run reads after n cycles are those it would have read n cycles later. -/
theorem runFor_inputAt {n : Nat} {s t : State} (h : runFor n s = .next t) (j : Nat) :
    t.inputAt j = s.inputAt (n + j) := by
  induction n generalizing s with
  | zero => injection h with h; rw [h, Nat.zero_add]
  | succ n ih =>
    rw [runFor_succ, andThen_eq_next] at h
    obtain ⟨u, hu, ht⟩ := h
    rw [ih ht, inputAt_step hu, Nat.succ_add_eq_add_succ, Nat.add_assoc]

theorem runFor_inputs {n : Nat} {s t : State} (h : runFor n s = .next t) : t.inputs = s.inputAt n := by
  rw [← inputAt_zero, runFor_inputAt h, Nat.add_zero]

theorem runFor_noReset {m n : Nat} {s t : State} (h : runFor m s = .next t) (hr : s.noReset (m + n)) : t.noReset n :=
  fun j hj => by
    rw [runFor_inputAt h]
    exact hr _ (by omega)

theorem noReset_mono {s : State} {m n : Nat} (hr : s.noReset n) (h : m ≤ n) : s.noReset m :=
  fun j hj => hr j (hj.trans_le h)

/-! ## Waiting for a byte -/

/-- t is n cycles after s, in the same wait for a byte: the time-out has counted, and nothing of the READ has changed but the byte engine. -/
structure State.WaitsTo (s : State) (n : Nat) (t : State) : Prop where
  run : runFor n s = .next t
  fsm : t.fsm = s.fsm
  sr : t.sr = s.sr
  csN : t.csN = s.csN
  curDev : t.curDev = s.curDev
  windows : t.windows = s.windows
  faultCode : t.faultCode = s.faultCode
  toCnt : ∀ b, s.params.busTimeout = some b → t.toCnt = s.toCnt + n

theorem State.WaitsTo.refl (s : State) : s.WaitsTo 0 s := by constructor <;> simp

theorem exists_countsTo {s : State} (h : ∀ b, s.params.busTimeout = some b → s.toCnt + 1 < b) : ∃ c, s.countsTo c := by
  cases hT : s.params.busTimeout with
  | none => exact ⟨s.toCnt, fun _ => rfl, by simp [hT]⟩
  | some b =>
    have hlt := h b hT
    refine ⟨s.toCnt + 1, by simp [hT], fun n hn => ⟨?_, rfl⟩⟩
    obtain rfl : b = n := by simpa [hT] using hn
    omega

/-- A waiting cycle that the time-out does not abort adds one cycle to the wait. -/
theorem State.WaitsTo.next {s t : State} {n : Nat} (h : s.WaitsTo n t) (hf : s.fsm.inByte = true)
    (hd : t.xferDone = false) (hr : t.inputs.rst = false)
    (hT : ∀ b, s.params.busTimeout = some b → s.toCnt + (n + 1) < b) :
    ∃ c, step t = .next (t.endCycle { t.beginCycle with toCnt := c }) ∧
      s.WaitsTo (n + 1) (t.endCycle { t.beginCycle with toCnt := c }) := by
  have hp : t.params = s.params := runFor_params h.run
  obtain ⟨c, hc⟩ := exists_countsTo (s := t) fun b hb => by
    rw [hp] at hb
    have hlt := hT b hb
    have hcnt := h.toCnt b hb
    omega
  have hstep := step_waiting_counts hr (h.fsm ▸ hf) hd hc
  refine ⟨c, hstep,
    { run := runFor_snoc h.run hstep
      fsm := by simpa using h.fsm
      sr := by simpa using h.sr
      csN := by simpa using h.csN
      curDev := by simpa using h.curDev
      windows := by simpa using h.windows
      faultCode := by simpa using h.faultCode
      toCnt := fun b hb => ?_ }⟩
  obtain ⟨-, hcount⟩ := hc.2 b (hp ▸ hb)
  rw [endCycle_toCnt, hcount, h.toCnt b hb, Nat.add_assoc]

/-- From s to t all six registers of the byte engine are held (R43 to R47, R50). -/
def State.holdsEngine (s t : State) : Prop :=
  t.xferActive = s.xferActive ∧ t.xferDone = s.xferDone ∧ t.sck = s.sck ∧ t.divCnt = s.divCnt ∧
  t.bitCnt = s.bitCnt ∧ t.rxByte = s.rxByte

/-- As long as the bus is not ready and the time-out leaves time, a READ waits and its engine holds (R108). -/
theorem stalled_runs {s : State} {n : Nat} (hf : s.fsm.inByte = true) (hd : s.xferDone = false)
    (hT : ∀ b, s.params.busTimeout = some b → s.toCnt + n < b) (hr : s.noReset n)
    (hstall : ∀ j < n, (s.inputAt j).busReady = false) : ∃ t, s.WaitsTo n t ∧ s.holdsEngine t := by
  have hnext : ∀ c t, s.WaitsTo c t ∧ s.holdsEngine t → c < n → t.inputs.rst = false →
      ∃ u, step t = .next u ∧ s.WaitsTo (c + 1) u ∧ s.holdsEngine u := by
    rintro c t ⟨hw, hh⟩ hc hrst
    obtain ⟨k, hstep, hw'⟩ := hw.next hf (hh.2.1.trans hd) hrst fun b hb => by have := hT b hb; omega
    refine ⟨_, hstep, hw', ?_⟩
    rw [beginCycle_stalled (by rw [runFor_inputs hw.run]; exact hstall c hc)]
    exact hh
  obtain ⟨t, -, ht⟩ := runFor_hands_on (P := fun c t => s.WaitsTo c t ∧ s.holdsEngine t) hnext n
    ⟨.refl s, rfl, rfl, rfl, rfl, rfl, rfl⟩ (Nat.zero_add n).le hr
  rw [Nat.zero_add] at ht
  exact ⟨t, ht⟩

/-- Settles O58: a byte that is not ready is active, and a stalled wait holds it. -/
theorem stuckBusHangsTheRead : Obligations.StuckBusHangsTheRead := by
  intro s n hi hf hd hT hr hstall
  have hin : s.fsm.inByte = true := Fsm.inByte_iff.2 hf
  obtain ⟨t, hw, hactive, hdone, hsck, hdiv, hbit, hrx⟩ := stalled_runs hin hd hT hr hstall
  have hx : s.xferActive = true := by simpa [hd] using hi.inByte hin
  have hlock : t.busLock = true := by
    rw [(runFor_inv hi hw.run).busLock, hw.fsm, Fsm.inTransaction_of_inByte hin]
  have hready : t.cmdReady = false := by
    rcases hf with h | h <;> simp [State.cmdReady, hw.fsm, h]
  exact ⟨t, hw.run, hw.fsm, hw.csN, hlock, hready, hactive.trans hx, hdone.trans hd, hsck, hdiv, hbit, hrx, hw.sr,
    hw.windows⟩

/-! ## The ready cycles of a byte -/

theorem readyCycles_add (s : State) (i m n : Nat) :
    s.readyCycles i (m + n) = s.readyCycles i m ++ s.readyCycles (i + m) n := by
  unfold State.readyCycles
  rw [← List.filter_append, List.range'_append_1]

theorem readyCycles_length_succ (s : State) (i n : Nat) :
    (s.readyCycles i (n + 1)).length = (s.readyCycles i n).length + (s.inputAt (i + n)).busReady.toNat := by
  rw [readyCycles_add, List.length_append, readyCycles_succ]
  cases (s.inputAt (i + n)).busReady <;> rfl

/-- A ready cycle's number among the ready cycles is how many there were before it. -/
theorem readyCycles_getD {s : State} {i m n : Nat} (hm : m < n) (hb : (s.inputAt (i + m)).busReady = true) :
    (s.readyCycles i n).getD (s.readyCycles i m).length 0 = i + m := by
  obtain ⟨k, rfl⟩ := Nat.exists_eq_add_of_lt hm
  rw [Nat.add_assoc, readyCycles_add, readyCycles_succ, if_pos hb, List.getD_append_right _ _ _ _ le_rfl]
  simp

/-- The last of a byte's ready cycles ends it, so before its end there are fewer (R107). -/
theorem State.byteFills.length_lt {s : State} {i n m : Nat} (h : s.byteFills i n) (hm : m < n) :
    (s.readyCycles i m).length < 16 * s.params.sckDiv := by
  obtain ⟨hlen, hlast⟩ := h
  obtain ⟨k, rfl⟩ := Nat.exists_eq_add_of_lt hm
  have hsucc := readyCycles_length_succ s i (m + k)
  rw [show i + (m + k + 1) - 1 = i + (m + k) by omega] at hlast
  rw [hlast, hlen, readyCycles_add, List.length_append] at hsucc
  simp only [Bool.toNat_true] at hsucc
  omega

/-- A byte that fills in as many cycles as it has ready ones sees the bus ready throughout. -/
theorem State.byteFills.readyCycles_eq {s : State} {i : Nat} (h : s.byteFills i (16 * s.params.sckDiv)) :
    s.readyCycles i (16 * s.params.sckDiv) = List.range' i (16 * s.params.sckDiv) := by
  unfold State.readyCycles
  rw [List.filter_eq_self, ← List.length_filter_eq_length_iff, List.length_range']
  exact h.1

theorem byteFills_ready {s : State} {i : Nat} (hpos : 1 ≤ s.params.sckDiv)
    (h : ∀ j, i ≤ j → j < i + 16 * s.params.sckDiv → (s.inputAt j).busReady = true) :
    s.byteFills i (16 * s.params.sckDiv) :=
  ⟨by rw [readyCycles_all h, List.length_range'], h _ (by omega) (by omega)⟩

/-! ## Assembling bits -/

theorem assembleBits_congr {f g : Nat → Bool} {n : Nat} (h : ∀ j < n, f j = g j) :
    assembleBits f n = assembleBits g n := by
  induction n with
  | zero => rfl
  | succ n ih => rw [assembleBits, assembleBits, ih fun j hj => h j (by omega), h n (by omega)]

theorem assembleBits_lt (f : Nat → Bool) (n : Nat) : assembleBits f n < 2 ^ n := by
  induction n with
  | zero => simp [assembleBits]
  | succ n ih =>
    have := Bool.toNat_le (f n)
    rw [assembleBits, pow_succ]
    omega

/-- The first m bits stand above the other n (R63). -/
theorem assembleBits_add (f : Nat → Bool) (m n : Nat) :
    assembleBits f (m + n) = assembleBits f m * 2 ^ n + assembleBits (fun j => f (m + j)) n := by
  induction n with
  | zero => simp [assembleBits]
  | succ n ih => rw [← Nat.add_assoc, assembleBits, assembleBits, ih, pow_succ]; ring

/-- Two bytes of bits are the word of the sixteen (R63, R117). -/
theorem append_assembleBits {f g h : Nat → Bool} (hf : ∀ j < 8, h j = f j) (hg : ∀ j < 8, h (8 + j) = g j) :
    BitVec.ofNat 8 (assembleBits f 8) ++ BitVec.ofNat 8 (assembleBits g 8) = BitVec.ofNat 16 (assembleBits h 16) := by
  have hsum : assembleBits h 16 = assembleBits f 8 * 2 ^ 8 + assembleBits g 8 := by
    rw [← assembleBits_congr hf, ← assembleBits_congr hg, ← assembleBits_add]
  have hflt := assembleBits_lt f 8
  have hglt := assembleBits_lt g 8
  apply BitVec.eq_of_toNat_eq
  rw [BitVec.toNat_append, BitVec.toNat_ofNat, BitVec.toNat_ofNat, Nat.mod_eq_of_lt hflt, Nat.mod_eq_of_lt hglt,
    ← Nat.shiftLeft_add_eq_or_of_lt hglt, Nat.shiftLeft_eq, BitVec.toNat_ofNat, hsum]
  omega

/-- A bit shifted into a byte that has taken k bits joins them as the lowest (R106). -/
theorem toNat_shiftIn_mod (b : Byte) (m : Bool) {k : Nat} (hk : k ≤ 7) :
    (b.setWidth 7 ++ BitVec.ofBool m).toNat % 2 ^ (k + 1) = 2 * (b.toNat % 2 ^ k) + m.toNat := by
  have hlow : (b.setWidth 7 ++ BitVec.ofBool m).toNat = 2 * (b.toNat % 2 ^ 7) + m.toNat := by
    have hm : (BitVec.ofBool m).toNat < 2 ^ 1 := (BitVec.ofBool m).isLt
    rw [BitVec.toNat_append, ← Nat.shiftLeft_add_eq_or_of_lt hm, Nat.shiftLeft_eq, BitVec.toNat_setWidth,
      BitVec.toNat_ofBool, mul_comm, pow_one]
  have hm := Bool.toNat_le m
  rw [hlow, pow_succ' 2 k, Nat.mod_mul (a := 2) (b := 2 ^ k),
    show (2 * (b.toNat % 2 ^ 7) + m.toNat) / 2 = b.toNat % 2 ^ 7 by omega,
    Nat.mod_mod_of_dvd _ (pow_dvd_pow 2 hk)]
  omega

/-! ## How far a byte is -/

/-- Bit j of a byte that starts in cycle i and lasts n cycles: `miso` in its ready cycle number (2·j + 1)·SCK_DIV (R105, R106). -/
def State.byteBit (s : State) (i n j : Nat) : Bool :=
  (s.inputAt ((s.readyCycles i n).getD (s.params.sckDiv - 1 + 2 * s.params.sckDiv * j) 0)).miso

theorem byteTaken_eq (s : State) (i n : Nat) :
    s.byteTaken i n = BitVec.ofNat 8 (assembleBits (s.byteBit i n) 8) := rfl

/-- With the bus ready throughout, bit j is `miso` at SCK's rising edge number j (R105, R118). -/
theorem byteBit_unstalled {s : State} {i j : Nat} (h : s.byteFills i (16 * s.params.sckDiv))
    (hpos : 1 ≤ s.params.sckDiv) (hj : j < 8) : s.byteBit i (16 * s.params.sckDiv) j =
      (s.inputAt (i + (s.params.sckDiv - 1 + 2 * s.params.sckDiv * j))).miso := by
  have hle : 2 * s.params.sckDiv * j ≤ 2 * s.params.sckDiv * 7 := Nat.mul_le_mul_left _ (by omega)
  rw [State.byteBit, h.readyCycles_eq, List.getD_eq_getElem _ _ (by rw [List.length_range']; omega),
    List.getElem_range', Nat.one_mul]

theorem byteTaken_unstalled {s : State} {i : Nat} (h : s.byteFills i (16 * s.params.sckDiv))
    (hpos : 1 ≤ s.params.sckDiv) : s.byteTaken i (16 * s.params.sckDiv) = BitVec.ofNat 8 (assembleBits
      (fun j => (s.inputAt (i + (s.params.sckDiv - 1 + 2 * s.params.sckDiv * j))).miso) 8) := by
  rw [byteTaken_eq, assembleBits_congr fun j hj => byteBit_unstalled h hpos hj]

/-- How far the byte engine is after r ready cycles of a byte whose bits are `bit 0`, `bit 1` and so on: it has counted them, and the low bits of `rx_byte` are the bits of the rising edges so far; or the byte is complete. -/
inductive ByteStage (bit : Nat → Bool) (r : Nat) (s : State) : Prop
  | shifting (hx : s.xferActive = true)
      (hr : r = s.params.sckDiv * (2 * s.bitCnt.toNat + s.sck.toNat) + s.divCnt)
      (hrx : s.rxByte.toNat % 2 ^ (s.bitCnt.toNat + s.sck.toNat) = assembleBits bit (s.bitCnt.toNat + s.sck.toNat))
  | complete (hr : r = 16 * s.params.sckDiv) (hx : s.xferActive = false) (hd : s.xferDone = true)
      (hk : s.sck = false) (hrx : s.rxByte = BitVec.ofNat 8 (assembleBits bit 8))

/-- A byte at its start (R104). -/
structure State.StartsByte (s : State) : Prop where
  xferActive : s.xferActive = true
  sck : s.sck = false
  bitCnt : s.bitCnt = 0
  divCnt : s.divCnt = 0

theorem State.StartsByte.stage {s : State} (h : s.StartsByte) (bit : Nat → Bool) : ByteStage bit 0 s :=
  .shifting h.xferActive (by simp [h.sck, h.bitCnt, h.divCnt]) (by simp [h.sck, h.bitCnt, assembleBits, Nat.mod_one])

/-- The end of a cycle and the count of the time-out are not the engine's. -/
theorem ByteStage.endCycle {bit : Nat → Bool} {r : Nat} {u : State} (h : ByteStage bit r u) (old : State) (c : Nat) :
    ByteStage bit r (old.endCycle { u with toCnt := c }) := by
  cases h with
  | shifting hx hr hrx => exact .shifting hx hr hrx
  | complete hr hx hd hk hrx => exact .complete hr hx hd hk hrx

theorem ByteStage.clearPulses {bit : Nat → Bool} {r : Nat} {s : State} (h : ByteStage bit r s) :
    ByteStage bit r s.clearPulses := by
  cases h with
  | shifting hx hr hrx => exact .shifting hx hr hrx
  | complete hr hx hd hk hrx => exact .complete hr hx hd hk hrx

section
variable {bit : Nat → Bool} {r : Nat} {s : State} (hx : s.xferActive = true) (hb : s.inputs.busReady = true)
  (hr : r = s.params.sckDiv * (2 * s.bitCnt.toNat + s.sck.toNat) + s.divCnt)
  (hrx : s.rxByte.toNat % 2 ^ (s.bitCnt.toNat + s.sck.toNat) = assembleBits bit (s.bitCnt.toNat + s.sck.toNat))
  (hpos : 1 ≤ s.params.sckDiv) (hd : s.divCnt = s.params.sckDiv - 1)
include hx hb hr hrx hpos hd

/-- The rising edge takes the next bit (R106). -/
theorem ByteStage.rises (hk : s.sck = false)
    (hbit : ∀ j, r = s.params.sckDiv - 1 + 2 * s.params.sckDiv * j → bit j = s.inputs.miso) :
    ByteStage bit (r + 1) s.beginCycle := by
  rw [beginCycle_rises hx hb hd hk]
  simp only [hk, Bool.toNat_false, Nat.add_zero] at hr hrx
  refine .shifting hx ?_ ?_
  · show r + 1 = s.params.sckDiv * (2 * s.bitCnt.toNat + 1) + 0
    rw [Nat.mul_succ]
    omega
  · show (s.rxByte.setWidth 7 ++ BitVec.ofBool s.inputs.miso).toNat % 2 ^ (s.bitCnt.toNat + 1) =
      assembleBits bit (s.bitCnt.toNat + 1)
    have hedge : r = s.params.sckDiv - 1 + 2 * s.params.sckDiv * s.bitCnt.toNat := by
      rw [hr, hd]; ring
    rw [toNat_shiftIn_mod _ _ (by omega), hrx, assembleBits, hbit _ hedge]

/-- The falling edge ends a bit, and the eighth the byte (R107). -/
theorem ByteStage.falls (hk : s.sck = true) : ByteStage bit (r + 1) s.beginCycle := by
  simp only [hk, Bool.toNat_true] at hr hrx
  by_cases hc : s.bitCnt = 7
  · rw [beginCycle_completes hx hb hd hk hc]
    have hseven : s.bitCnt.toNat = 7 := by rw [hc]; rfl
    rw [hseven] at hr hrx
    refine .complete ?_ rfl rfl rfl ?_
    · show r + 1 = 16 * s.params.sckDiv
      omega
    · show s.rxByte = _
      have hbyte := s.rxByte.isLt
      rw [← hrx]
      exact BitVec.eq_of_toNat_eq (by rw [BitVec.toNat_ofNat]; omega)
  · rw [beginCycle_falls hx hb hd hk hc]
    have hsucc : (s.bitCnt + 1).toNat = s.bitCnt.toNat + 1 := by bv_omega
    refine .shifting hx ?_ ?_
    · show r + 1 = s.params.sckDiv * (2 * (s.bitCnt + 1).toNat) + 0
      rw [hsucc, Nat.mul_succ 2, Nat.mul_succ _ (2 * s.bitCnt.toNat + 1)]
      omega
    · show s.rxByte.toNat % 2 ^ (s.bitCnt + 1).toNat = assembleBits bit (s.bitCnt + 1).toNat
      rw [hsucc]
      exact hrx

end

/-- A ready cycle brings the byte on by one: it counts inside a half-period, or is an edge of SCK at its end (R105). -/
theorem ByteStage.ready {bit : Nat → Bool} {r : Nat} {s : State} (h : ByteStage bit r s) (hi : s.Inv)
    (hlt : r < 16 * s.params.sckDiv) (hb : s.inputs.busReady = true)
    (hbit : ∀ j, r = s.params.sckDiv - 1 + 2 * s.params.sckDiv * j → bit j = s.inputs.miso) :
    ByteStage bit (r + 1) s.beginCycle := by
  obtain ⟨hpos, -⟩ := Params.of_wf hi.params
  cases h with
  | complete hr => omega
  | shifting hx hr hrx =>
    by_cases hd : s.divCnt = s.params.sckDiv - 1
    · cases hk : s.sck with
      | false => exact .rises hx hb hr hrx hpos hd hk hbit
      | true => exact .falls hx hb hr hrx hpos hd hk
    · rw [beginCycle_counts hx hb hd]
      exact .shifting hx (by rw [hr]; rfl) hrx

/-! ## The run of a byte -/

/-- A byte that starts i cycles into the run of s₀, after n cycles that the time-out leaves time for and none of which begins with the byte complete. -/
theorem byte_runs {s₀ s : State} {i n : Nat} (h₀ : runFor i s₀ = .next s) (hi : s.Inv) (hx : s.StartsByte)
    (hT : ∀ b, s.params.busTimeout = some b → s.toCnt + n < b) (hr : s.noReset n)
    (hfill : ∀ m < n, (s₀.readyCycles i m).length < 16 * s₀.params.sckDiv) :
    ∃ t, s.WaitsTo n t ∧ ByteStage (s₀.byteBit i n) (s₀.readyCycles i n).length t := by
  have hf : s.fsm.inByte = true := (hi.waits_of_active hx.xferActive).1
  have hnext : ∀ c t, s.WaitsTo c t ∧ ByteStage (s₀.byteBit i n) (s₀.readyCycles i c).length t → c < n →
      t.inputs.rst = false → ∃ u, step t = .next u ∧ s.WaitsTo (c + 1) u ∧
        ByteStage (s₀.byteBit i n) (s₀.readyCycles i (c + 1)).length u := by
    rintro c t ⟨hw, hst⟩ hc hrst
    have hrun : runFor (i + c) s₀ = .next t := runFor_append h₀ hw.run
    have hit : t.Inv := runFor_inv hi hw.run
    have hin : t.inputs = s₀.inputAt (i + c) := runFor_inputs hrun
    have hp : t.params = s₀.params := runFor_params hrun
    have hlt := hfill c hc
    have hactive : t.xferActive = true := by
      cases hst with
      | shifting hx => exact hx
      | complete hr => rw [hr, hp] at hlt; omega
    obtain ⟨k, hstep, hw'⟩ := hw.next hf (hit.waits_of_active hactive).2 hrst fun b hb => by have := hT b hb; omega
    refine ⟨_, hstep, hw', .endCycle ?_ t k⟩
    rw [readyCycles_length_succ, ← hin]
    cases hb : t.inputs.busReady with
    | false =>
      rw [beginCycle_stalled hb]
      exact hst.clearPulses
    | true =>
      refine hst.ready hit (hp ▸ hlt) hb fun j hj => ?_
      rw [State.byteBit, ← hp, ← hj, readyCycles_getD hc (hin ▸ hb), ← hin]
  obtain ⟨t, -, ht⟩ := runFor_hands_on
    (P := fun c t => s.WaitsTo c t ∧ ByteStage (s₀.byteBit i n) (s₀.readyCycles i c).length t) hnext n
    ⟨.refl s, hx.stage _⟩ (Nat.zero_add n).le hr
  rw [Nat.zero_add] at ht
  exact ⟨t, ht⟩

/-- A byte that has seen its last ready cycle is complete and holds the bits taken (R107). -/
theorem ByteStage.completed {s₀ t : State} {i n : Nat} (h : ByteStage (s₀.byteBit i n) (s₀.readyCycles i n).length t)
    (hi : t.Inv) (hp : t.params = s₀.params) (hfill : s₀.byteFills i n) :
    t.xferActive = false ∧ t.xferDone = true ∧ t.sck = false ∧ t.rxByte = s₀.byteTaken i n := by
  cases h with
  | complete hr hx hd hk hrx => exact ⟨hx, hd, hk, hrx⟩
  | shifting hx hr hrx =>
    exfalso
    obtain ⟨hpos, -⟩ := Params.of_wf hi.params
    have hdiv := hi.divCnt
    have hk := Bool.toNat_le t.sck
    have hle : t.params.sckDiv * (2 * t.bitCnt.toNat + t.sck.toNat) ≤ t.params.sckDiv * 15 :=
      Nat.mul_le_mul_left _ (by omega)
    rw [hfill.1, ← hp] at hr
    omega

/-- Settles O52: the run of a byte that starts in its first cycle and fills in its last. -/
theorem byteShiftsInEightBits : Obligations.ByteShiftsInEightBits := by
  intro s n hi hx hk hbit hdiv hT hr hfill
  obtain ⟨t, hw, hst⟩ := byte_runs (runFor_zero s) hi ⟨hx, hk, hbit, hdiv⟩ hT hr fun m hm => hfill.length_lt hm
  obtain ⟨hx', hd', hk', hrx⟩ := hst.completed (runFor_inv hi hw.run) (runFor_params hw.run) hfill
  refine ⟨t, hw.run, hw.fsm, hx', hd', hk', hw.sr, hrx, ?_⟩
  rintro rfl
  obtain ⟨hpos, -⟩ := Params.of_wf hi.params
  rw [hrx, byteTaken_unstalled hfill hpos]
  simp only [Nat.zero_add]

/-! ## From the acceptance to the first byte -/

/-- s is c cycles after s₀, a state that accepts a READ of dev, and the READ has not answered: no window is written, and no fault event raised. -/
structure ReadAt (s₀ : State) (dev : DevIdx) (c : Nat) (s : State) : Prop where
  run : runFor c s₀ = .next s
  curDev : s.curDev = dev
  windows : s.windows = s₀.windows
  faultCode : s.faultCode = s₀.faultCode

theorem ReadAt.step {s₀ s t : State} {dev : DevIdx} {c : Nat} (h : ReadAt s₀ dev c s) (hs : step s = .next t)
    (hdev : t.curDev = s.curDev) (hw : t.windows = s.windows) (hf : t.faultCode = s.faultCode) :
    ReadAt s₀ dev (c + 1) t where
  run := runFor_snoc h.run hs
  curDev := hdev.trans h.curDev
  windows := hw.trans h.windows
  faultCode := hf.trans h.faultCode

theorem ReadAt.params {s₀ s : State} {dev : DevIdx} {c : Nat} (h : ReadAt s₀ dev c s) : s.params = s₀.params :=
  runFor_params h.run

theorem ReadAt.rst {s₀ s : State} {dev : DevIdx} {c : Nat} (h : ReadAt s₀ dev c s) (hr : s₀.noReset (c + 1)) :
    s.inputs.rst = false := by
  rw [runFor_inputs h.run]
  exact hr c c.lt_succ_self

section
variable {s₀ : State} {dev : DevIdx} (hi : s₀.Inv) (ha : s₀.accepts (wordC8 0x3 dev)) (hp : s₀.phase = .started)
include hi ha hp

/-- SELECTED lasts C_LATCH cycles from the one after the acceptance (R23, R111). -/
theorem read_selected {c : Nat} (hc : c < s₀.params.cLatch) (hr : s₀.noReset (c + 1)) :
    ∃ s, ReadAt s₀ dev (c + 1) s ∧ s.fsm = .selected ∧ s.dlyCnt + c + 1 = s₀.params.cLatch := by
  induction c with
  | zero =>
    have hstep := step_accept_read hi ha hp
    refine ⟨_, ⟨runFor_snoc (runFor_zero _) hstep, rfl, rfl, rfl⟩, rfl, ?_⟩
    show s₀.params.cLatch - 1 + 0 + 1 = s₀.params.cLatch
    omega
  | succ c ih =>
    obtain ⟨s, h, hf, hd⟩ := ih (by omega) (noReset_mono hr (by omega))
    obtain ⟨ws, hws, hstep⟩ := step_wait_on (runFor_inv hi h.run) (h.rst hr) (by omega) (.inl hf)
    obtain rfl := hws (by simp [hf])
    refine ⟨_, h.step hstep rfl rfl rfl, hf, ?_⟩
    show s.dlyCnt - 1 + (c + 1) + 1 = _
    omega

theorem read_latched (hr : s₀.noReset (s₀.params.cLatch + 1)) :
    ∃ s, ReadAt s₀ dev (s₀.params.cLatch + 1) s ∧ s.fsm = .latched := by
  obtain ⟨-, -, -, -, hlatch, -⟩ := Params.of_wf hi.params
  obtain ⟨c, hc⟩ := Nat.exists_eq_add_of_lt hlatch
  rw [Nat.zero_add] at hc
  rw [hc] at hr ⊢
  obtain ⟨s, h, hf, hd⟩ := read_selected hi ha hp (c := c) (by omega) (noReset_mono hr (by omega))
  have hstep := step_selected_over (runFor_inv hi h.run) (h.rst hr) hf (by omega)
  exact ⟨_, h.step hstep rfl rfl rfl, rfl⟩

/-- The MSB byte starts with the time-out at 0 (R113, R118). -/
theorem read_msb_starts (hr : s₀.noReset (msbStart s₀.params)) :
    ∃ s, ReadAt s₀ dev (msbStart s₀.params) s ∧ s.fsm = .byteMsb ∧ s.toCnt = 0 ∧ s.StartsByte := by
  obtain ⟨s, h, hf⟩ := read_latched hi ha hp (noReset_mono hr (by unfold msbStart; omega))
  have his := runFor_inv hi h.run
  have hk : s.sck = false := his.sck (his.atRest (hf ▸ rfl)).1
  exact ⟨_, h.step (step_latched_starts his (h.rst hr) hf) rfl rfl rfl, rfl, rfl, ⟨rfl, hk, rfl, rfl⟩⟩

end

/-! ## The bytes of a READ -/

section
variable {s₀ s : State} {dev : DevIdx} {c n : Nat} (h : ReadAt s₀ dev c s) (hi : s₀.Inv) (hx : s.StartsByte)
  (h0 : s.toCnt = 0) (hT : ∀ b, s₀.params.busTimeout = some b → n < b) (hr : s₀.noReset (c + n))
include h hi hx h0 hT hr

/-- n cycles into a byte of a READ (`byte_runs`). -/
theorem ReadAt.waits (hfill : ∀ m < n, (s₀.readyCycles c m).length < 16 * s₀.params.sckDiv) :
    ∃ t, ReadAt s₀ dev (c + n) t ∧ t.fsm = s.fsm ∧ t.sr = s.sr ∧
      (∀ b, s₀.params.busTimeout = some b → t.toCnt = n) ∧
      ByteStage (s₀.byteBit c n) (s₀.readyCycles c n).length t := by
  obtain ⟨t, hw, hst⟩ := byte_runs h.run (runFor_inv hi h.run) hx
    (by rw [h.params, h0, Nat.zero_add]; exact hT) (runFor_noReset h.run hr) hfill
  refine ⟨t, ⟨runFor_append h.run hw.run, hw.curDev.trans h.curDev, hw.windows.trans h.windows,
    hw.faultCode.trans h.faultCode⟩, hw.fsm, hw.sr, fun b hb => ?_, hst⟩
  rw [hw.toCnt b (h.params ▸ hb), h0, Nat.zero_add]

/-- A byte of a READ that fills in n cycles is then ready, and `rx_byte` holds it. -/
theorem ReadAt.byte_completes (hfill : s₀.byteFills c n) :
    ∃ t, ReadAt s₀ dev (c + n) t ∧ t.fsm = s.fsm ∧ t.sr = s.sr ∧ t.xferDone = true ∧
      t.rxByte = s₀.byteTaken c n := by
  obtain ⟨t, ht, hf, hsr, -, hst⟩ := h.waits hi hx h0 hT hr fun m hm => hfill.length_lt hm
  obtain ⟨-, hd, -, hrx⟩ := hst.completed (runFor_inv hi ht.run) ht.params hfill
  exact ⟨t, ht, hf, hsr, hd, hrx⟩

end

theorem highByte_append (a b : Byte) : ((a ++ b) >>> 8).setWidth 8 = a := by
  rw [setWidth_shift_eq_highByte, BitVec.extractLsb'_append_eq_left]

section
variable {s₀ : State} {dev : DevIdx} (hi : s₀.Inv) (ha : s₀.accepts (wordC8 0x3 dev)) (hp : s₀.phase = .started)
  {k l : Nat} (hTk : ∀ b, s₀.params.busTimeout = some b → 16 * s₀.params.sckDiv + k < b)
  (hmsb : s₀.byteFills (msbStart s₀.params) (16 * s₀.params.sckDiv + k))
include hi ha hp hTk hmsb

/-- The hand-over: the LSB byte starts with the time-out at 0, and the MSB byte stands in `sr` (R114, R118). -/
theorem read_lsb_starts (hr : s₀.noReset (lsbStart s₀.params k)) :
    ∃ s, ReadAt s₀ dev (lsbStart s₀.params k) s ∧ s.fsm = .byteLsb ∧ s.toCnt = 0 ∧ s.StartsByte ∧
      (s.sr >>> 8).setWidth 8 = s₀.byteTaken (msbStart s₀.params) (16 * s₀.params.sckDiv + k) := by
  have hc : lsbStart s₀.params k = msbStart s₀.params + (16 * s₀.params.sckDiv + k) + 1 := by
    unfold lsbStart msbStart; omega
  rw [hc] at hr ⊢
  obtain ⟨s, h, hf, h0, hx⟩ := read_msb_starts hi ha hp (noReset_mono hr (by omega))
  obtain ⟨t, ht, hft, -, hd, hrx⟩ := h.byte_completes hi hx h0 hTk (noReset_mono hr (by omega)) hmsb
  have hit := runFor_inv hi ht.run
  rw [hf] at hft
  have hk : t.sck = false := hit.sck (hit.xferActive_of_done (hft ▸ rfl) hd)
  refine ⟨_, ht.step (step_byteMsb_done hit (ht.rst hr) hft hd) rfl rfl rfl, rfl, rfl, ⟨rfl, hk, rfl, rfl⟩, ?_⟩
  show ((t.rxByte ++ t.sr.setWidth 8) >>> 8).setWidth 8 = _
  rw [highByte_append, hrx]

/-- The end of the transaction: `sr` holds the sixteen bits (R115, R117). -/
theorem read_deselects (hTl : ∀ b, s₀.params.busTimeout = some b → 16 * s₀.params.sckDiv + l < b)
    (hlsb : s₀.byteFills (lsbStart s₀.params k) (16 * s₀.params.sckDiv + l))
    (hr : s₀.noReset (s₀.params.cLatch + 4 + 32 * s₀.params.sckDiv + k + l)) :
    ∃ s, ReadAt s₀ dev (s₀.params.cLatch + 4 + 32 * s₀.params.sckDiv + k + l) s ∧ s.fsm = .deselected ∧
      s.toFlag = false ∧ s.sr = s₀.wordTaken k l := by
  have hc : s₀.params.cLatch + 4 + 32 * s₀.params.sckDiv + k + l =
      lsbStart s₀.params k + (16 * s₀.params.sckDiv + l) + 1 := by unfold lsbStart; omega
  rw [hc] at hr ⊢
  obtain ⟨s, h, hf, h0, hx, hsr⟩ := read_lsb_starts hi ha hp hTk hmsb (noReset_mono hr (by omega))
  obtain ⟨t, ht, hft, hsrt, hd, hrx⟩ := h.byte_completes hi hx h0 hTl (noReset_mono hr (by omega)) hlsb
  have hit := runFor_inv hi ht.run
  rw [hf] at hft
  have hflag : t.toFlag = false := hit.toFlag_low (by simp [hft])
  refine ⟨_, ht.step (step_byteLsb_done hit (ht.rst hr) hft hd) rfl rfl rfl, rfl, hflag, ?_⟩
  show (t.sr >>> 8).setWidth 8 ++ t.rxByte = s₀.wordTaken k l
  rw [hsrt, hsr, hrx]
  rfl

end

/-! ## The answer -/

/-- Without a stalled cycle the bits of the two bytes are those of R118's sixteen edges. -/
theorem wordTaken_unstalled {s : State} (hpos : 1 ≤ s.params.sckDiv)
    (hmsb : s.byteFills (msbStart s.params) (16 * s.params.sckDiv))
    (hlsb : s.byteFills (lsbStart s.params 0) (16 * s.params.sckDiv)) : s.wordTaken 0 0 = s.rawWord := by
  show s.byteTaken (msbStart s.params) (16 * s.params.sckDiv) ++
    s.byteTaken (lsbStart s.params 0) (16 * s.params.sckDiv) = s.rawWord
  rw [byteTaken_unstalled hmsb hpos, byteTaken_unstalled hlsb hpos]
  refine append_assembleBits (fun j hj => ?_) fun j hj => ?_
  · rw [sampleCycle, if_pos hj, msbStart]
    congr 2
    omega
  · rw [sampleCycle, if_neg (by omega), lsbStart, Nat.mul_add]
    congr 2
    omega

section
variable {s u : State} (hf : s.toFlag = false)
include hf

theorem deselected_lineFault (hc : classify s.sr = .lineFault) :
    s.deselected = .next { s.takeFault lineCode lineCode with toFlag := false, fsm := .idle } := by
  simp [State.deselected, State.reportRead, hf, hc]

theorem deselected_rangeFault {x : Decoded} (hc : classify s.sr = .rangeFault x) :
    s.deselected = .next { s.takeFault (zext16 x) rangeSentinel with toFlag := false, fsm := .idle } := by
  simp [State.deselected, State.reportRead, hf, hc]

theorem deselected_valid {x m : Decoded} (hc : classify s.sr = .valid x)
    (hu : s.avgUpdate (eff s.params s.curDev) x = .next (u, m)) :
    s.deselected = .next { u.respond .done (zext16 m) with toFlag := false, fsm := .idle } := by
  simp [State.deselected, State.reportRead, State.reportValid, hf, hc, hu]

end

/-- DESELECTED answers DONE in IDLE and leaves the raw word (R142). -/
theorem deselected_answers {s t : State} (h : s.deselected = .next t) :
    t.fsm = .idle ∧ t.sr = s.sr ∧ t.rspStatus = 0b00 := by
  rcases deselected_cases h with ⟨-, rfl⟩ | ⟨-, -, rfl⟩ | ⟨-, x, -, rfl⟩ | ⟨-, x, u, m, -, hu, rfl⟩
  · exact ⟨rfl, rfl, rfl⟩
  · exact ⟨rfl, rfl, rfl⟩
  · exact ⟨rfl, rfl, rfl⟩
  · obtain ⟨ws, rfl⟩ := avgUpdate_frame hu
    exact ⟨rfl, rfl, rfl⟩

/-- The cycle of DESELECTED answers, on a core whose byte engine rests. -/
theorem State.Inv.step_deselected_next {s : State} (hi : s.Inv) (hr : s.inputs.rst = false) (hf : s.fsm = .deselected) :
    ∃ u, s.clearPulses.deselected = .next u ∧ step s = .next (s.endCycle u) := by
  obtain ⟨u, hu⟩ := hi.clearPulses.deselected_next
  refine ⟨u, hu, ?_⟩
  rw [step_deselected hr hf, beginCycle_rest (hi.atRest (hf ▸ rfl)).1, hu]
  rfl

/-- AVG_UPDATE reads the parameters and the windows, and nothing else (R129). -/
theorem avgUpdate_congr {s s' u : State} {d : Nat} {v m : Decoded} (hp : s'.params = s.params)
    (hw : s'.windows = s.windows) (h : s.avgUpdate d v = .next (u, m)) :
    ∃ u', s'.avgUpdate d v = .next (u', m) ∧ u'.windows = u.windows := by
  rcases avgUpdate_cases h with ⟨ha, rfl, rfl⟩ | ⟨ha, w, old, hget, hold, rfl, rfl⟩
  · exact ⟨s', by simp [State.avgUpdate, hp, ha], hw⟩
  · exact ⟨{ s' with windows := s.windows.set d (w.insert s.params.windowBits old v).1 },
      by simp [State.avgUpdate, hp, ha, hw, hget, hold], rfl⟩

/-- Settles O53: the run reaches DESELECTED with the word taken, and that cycle answers by its class. -/
theorem readAnswersAsItsTransaction : Obligations.ReadAnswersAsItsTransaction := by
  intro s dev k l hi hp ha hT hr hmsb hlsb
  obtain ⟨d, h, hf, hflag, hsr⟩ := read_deselects hi ha hp (fun b hb => (hT b hb).1) hmsb (fun b hb => (hT b hb).2) hlsb
    (noReset_mono hr (by omega))
  have hc : s.params.cLatch + 5 + 32 * s.params.sckDiv + k + l =
      s.params.cLatch + 4 + 32 * s.params.sckDiv + k + l + 1 := by omega
  rw [hc] at hr ⊢
  have hid := runFor_inv hi h.run
  obtain ⟨u, hu, hstep⟩ := hid.step_deselected_next (h.rst hr) hf
  obtain ⟨hidle, hsru, hst⟩ := deselected_answers hu
  obtain ⟨-, -, hph, hvalid, -⟩ := deselected_records hu
  have hrun := runFor_snoc h.run hstep
  obtain ⟨hlines, -, hlock, -⟩ := (runFor_inv hi hrun).idle_rests hidle
  rw [runFor_params hrun] at hlines
  have hword : u.sr = s.wordTaken k l := hsru.trans hsr
  refine ⟨_, hrun, hidle, hph.trans (hid.readPhase (.inr hf)), hword, hlock, ?unstalled, hlines, hvalid, hst, ?classes⟩
  case unstalled =>
    rintro rfl rfl
    obtain ⟨hpos, -⟩ := Params.of_wf hi.params
    exact hword.trans (wordTaken_unstalled hpos hmsb hlsb)
  case classes =>
    rw [← hsr]
    refine ⟨fun hc => ?line, fun x hc => ?range, fun x hc => ?valid⟩
    case line =>
      obtain rfl := Host.Outcome.next.inj (hu.symm.trans (deselected_lineFault (s := d.clearPulses) hflag hc))
      exact ⟨rfl, rfl, rfl, h.windows⟩
    case range =>
      obtain rfl := Host.Outcome.next.inj (hu.symm.trans (deselected_rangeFault (s := d.clearPulses) hflag hc))
      exact ⟨rfl, rfl, rfl, h.windows⟩
    case valid =>
      obtain ⟨⟨v, m⟩, hv⟩ := hid.clearPulses.avgUpdate_next d.curDev x
      obtain rfl := Host.Outcome.next.inj (hu.symm.trans (deselected_valid (s := d.clearPulses) hflag hc hv))
      obtain ⟨v', hv', hw⟩ := avgUpdate_congr (s := d.clearPulses) h.params.symm h.windows.symm hv
      obtain ⟨ws, rfl⟩ := avgUpdate_frame hv
      rw [clearPulses_params, h.params, h.curDev] at hv'
      have hexec : exec (.avgUpdate dev x) s = .next { v' with result := .mean m } := by
        simp [exec, execAvgUpdate, hv']
      exact ⟨rfl, h.faultCode, _, m, hexec, rfl, hw.symm, rfl⟩

/-! ## The line and the lock -/

/-- In its transaction a READ asserts the line of its device, and that only, and holds the lock (R33, R67). -/
theorem ReadAt.holds {s₀ s : State} {dev : DevIdx} {c : Nat} (h : ReadAt s₀ dev c s) (hi : s₀.Inv)
    (ht : s.fsm.inTransaction = true) :
    s.csN = driveLine s₀.params dev true (allOnes s₀.params) ∧ s.busLock = true := by
  have his := runFor_inv hi h.run
  rw [driveLine_assert, ← h.params, ← h.curDev]
  exact ⟨his.csN_asserted (.inl ht), his.busLock.trans ht⟩

/-- With the bus ready, a READ is in its transaction from the cycle after its acceptance for C_LATCH + 3 + 32·SCK_DIV cycles (R118). -/
theorem read_inTransaction {s₀ : State} {dev : DevIdx} {c : Nat} (hi : s₀.Inv) (ha : s₀.accepts (wordC8 0x3 dev))
    (hp : s₀.phase = .started) (hc : 1 ≤ c ∧ c ≤ s₀.params.cLatch + 3 + 32 * s₀.params.sckDiv)
    (hr : s₀.noReset c) (hbus : ∀ j < c, (s₀.inputAt j).busReady = true) :
    ∃ s, ReadAt s₀ dev c s ∧ s.fsm.inTransaction = true := by
  obtain ⟨hpos, -, -, -, -, -, htimeout, -⟩ := Params.of_wf hi.params
  have hfew (i : Nat) {n : Nat} (hn : n ≤ 16 * s₀.params.sckDiv) :
      ∀ m < n, (s₀.readyCycles i m).length < 16 * s₀.params.sckDiv :=
    fun m hm => (readyCycles_length_le s₀ i m).trans_lt (by omega)
  have hfast {n : Nat} (hn : n ≤ 16 * s₀.params.sckDiv) (b : Nat) (hb : s₀.params.busTimeout = some b) : n < b :=
    hn.trans_lt (htimeout b hb)
  have hms : msbStart s₀.params = s₀.params.cLatch + 2 := rfl
  have hls : lsbStart s₀.params 0 = s₀.params.cLatch + 3 + 16 * s₀.params.sckDiv := rfl
  have hcases : c ≤ s₀.params.cLatch ∨ c = s₀.params.cLatch + 1 ∨
      msbStart s₀.params ≤ c ∧ c < lsbStart s₀.params 0 ∨ lsbStart s₀.params 0 ≤ c := by omega
  rcases hcases with hle | rfl | ⟨hge, hlt⟩ | hge
  · obtain ⟨n, rfl⟩ := Nat.exists_eq_add_of_le' hc.1
    obtain ⟨s, h, hf, -⟩ := read_selected hi ha hp hle hr
    exact ⟨s, h, hf ▸ rfl⟩
  · obtain ⟨s, h, hf⟩ := read_latched hi ha hp hr
    exact ⟨s, h, hf ▸ rfl⟩
  · obtain ⟨n, rfl⟩ := Nat.exists_eq_add_of_le hge
    obtain ⟨s, h, hf, h0, hx⟩ := read_msb_starts hi ha hp (noReset_mono hr (by omega))
    obtain ⟨t, ht, hft, -⟩ := h.waits hi hx h0 (hfast (n := n) (by omega)) hr (hfew _ (by omega))
    exact ⟨t, ht, by rw [hft, hf]; rfl⟩
  · obtain ⟨n, rfl⟩ := Nat.exists_eq_add_of_le hge
    have hmsb := byteFills_ready (i := msbStart s₀.params) hpos fun j _ hj => hbus j (by omega)
    obtain ⟨s, h, hf, h0, hx, -⟩ :=
      read_lsb_starts hi ha hp (k := 0) (hfast le_rfl) hmsb (noReset_mono hr (by omega))
    obtain ⟨t, ht, hft, -⟩ := h.waits hi hx h0 (hfast (n := n) (by omega)) hr (hfew _ (by omega))
    exact ⟨t, ht, by rw [hft, hf]; rfl⟩

/-- Before its transaction and after it the lines and the lock are at rest. -/
theorem State.Inv.rests {s : State} (hi : s.Inv) (hf : s.fsm = .idle ∨ s.fsm = .deselected) :
    s.csN = allOnes s.params ∧ s.busLock = false := by
  rcases hf with hf | hf <;> exact ⟨hi.csN_rest (hf ▸ rfl) (by simp [hf]), hi.busLock.trans (hf ▸ rfl)⟩

/-- Settles O54: outside the transaction there are three cycles, the acceptance, DESELECTED and the answer. -/
theorem readHoldsItsLineAndTheLock : Obligations.ReadHoldsItsLineAndTheLock := by
  intro s dev c hi hp ha hc hr hbus
  by_cases hin : 1 ≤ c ∧ c ≤ s.params.cLatch + 3 + 32 * s.params.sckDiv
  · obtain ⟨t, h, ht⟩ := read_inTransaction hi ha hp hin hr hbus
    exact ⟨t, h.run, fun _ => h.holds hi ht, fun hout => absurd hin hout⟩
  suffices hrest : ∃ t, runFor c s = .next t ∧ (t.fsm = .idle ∨ t.fsm = .deselected) by
    obtain ⟨t, hrun, hf⟩ := hrest
    exact ⟨t, hrun, fun h => absurd h hin, fun _ => runFor_params hrun ▸ (runFor_inv hi hrun).rests hf⟩
  rcases Nat.eq_zero_or_pos c with rfl | hpos
  · exact ⟨s, rfl, .inl ha.1⟩
  obtain ⟨hdiv, -, -, -, -, -, htimeout, -⟩ := Params.of_wf hi.params
  have hms : msbStart s.params = s.params.cLatch + 2 := rfl
  have hls : lsbStart s.params 0 = s.params.cLatch + 3 + 16 * s.params.sckDiv := rfl
  have hmsb := byteFills_ready (i := msbStart s.params) hdiv fun j _ hj => hbus j (by omega)
  have hlsb := byteFills_ready (i := lsbStart s.params 0) hdiv fun j _ hj => hbus j (by omega)
  have hlast : c = s.params.cLatch + 4 + 32 * s.params.sckDiv ∨ c = s.params.cLatch + 5 + 32 * s.params.sckDiv := by
    omega
  rcases hlast with rfl | rfl
  · obtain ⟨t, h, hf, -⟩ := read_deselects (k := 0) (l := 0) hi ha hp htimeout hmsb htimeout hlsb hr
    exact ⟨t, h.run, .inr hf⟩
  · obtain ⟨t, hrun, hf, -⟩ := readAnswersAsItsTransaction s dev 0 0 hi hp ha
      (fun b hb => ⟨htimeout b hb, htimeout b hb⟩) hr hmsb hlsb
    exact ⟨t, hrun, .inl hf⟩

end Sys2Proof.Machine
end

section
/-! PROOFS of 43_fault_classifier: the detectors in the arithmetic of naturals, and the class they give. -/

namespace Sys2Proof.Machine

/-! ## The detectors -/

/-- The line-fault detector (R120). -/
theorem lineDetect_iff {raw : Word} :
    lineDetect raw = true ↔ raw = 0x0000 ∨ raw = 0xFFFF ∨ raw.getLsbD 2 = true := by
  simp [lineDetect, openBit, or_assoc]

/-- The range comparator (R122). -/
theorem rangeDetect_iff {dec : Decoded} : rangeDetect dec = true ↔ dec.toNat < 10 ∨ 1200 < dec.toNat := by
  simp [rangeDetect, rangeLo, rangeHi, BitVec.ult]

/-- The decoded field is raw[15:3]: the shift leaves 13 bits, and none is lost (R121). -/
@[simp] theorem decodedField_toNat (raw : Word) : (decodedField raw).toNat = raw.toNat / 8 := by
  have hfits : raw.toNat / 8 < 2 ^ 13 := by omega
  simpa [decodedField, decodeShift, Nat.shiftRight_eq_div_pow] using hfits

theorem decodedField_eq_iff {raw : Word} {dec : Decoded} : decodedField raw = dec ↔ dec.toNat = raw.toNat / 8 := by
  rw [← BitVec.toNat_inj, decodedField_toNat, eq_comm]

theorem decodedField_eq_ofNat (raw : Word) : decodedField raw = BitVec.ofNat 13 (raw.toNat / 8) := by
  rw [← decodedField_toNat, BitVec.ofNat_toNat, BitVec.setWidth_eq]

theorem rangeDetect_decodedField_iff {raw : Word} :
    rangeDetect (decodedField raw) = true ↔ raw.toNat / 8 < 10 ∨ 1200 < raw.toNat / 8 := by
  rw [rangeDetect_iff, decodedField_toNat]

/-- The OPEN bit is the lowest bit of raw / 4 (R120). -/
theorem getLsbD_two_iff {raw : Word} : raw.getLsbD 2 = true ↔ raw.toNat / 4 % 2 = 1 := by
  simp [BitVec.getLsbD, Nat.testBit_eq_decide_div_mod_eq]

/-- Only bit 2 decides the line fault of a word that is not all zeros: the word of all ones has it set too (R126). -/
theorem lineDetect_of_ne_zero {raw : Word} (h : raw ≠ 0) : lineDetect raw = raw.getLsbD 2 := by
  have hones : raw = 0xFFFF → raw.getLsbD 2 = true := by rintro rfl; decide
  rw [Bool.eq_iff_iff, lineDetect_iff]
  exact ⟨fun hl => (hl.resolve_left h).elim hones id, fun h2 => .inr (.inr h2)⟩

/-! ## The class -/

/-- The three branches of the classifier, by what the detectors say (R119, R124). -/
theorem classify_eq_iff {raw : Word} {c : Class} : classify raw = c ↔
    lineDetect raw = true ∧ .lineFault = c ∨
    ¬ lineDetect raw = true ∧ rangeDetect (decodedField raw) = true ∧ .rangeFault (decodedField raw) = c ∨
    ¬ lineDetect raw = true ∧ ¬ rangeDetect (decodedField raw) = true ∧ .valid (decodedField raw) = c := by
  unfold classify
  split
  · simp [*]
  · split <;> simp [*]

theorem classify_eq_lineFault_iff {raw : Word} : classify raw = .lineFault ↔ lineDetect raw = true := by
  simp [classify_eq_iff]

theorem classify_eq_rangeFault_iff {raw : Word} {dec : Decoded} : classify raw = .rangeFault dec ↔
    ¬ lineDetect raw = true ∧ rangeDetect (decodedField raw) = true ∧ decodedField raw = dec := by
  simp [classify_eq_iff]

theorem classify_eq_valid_iff {raw : Word} {dec : Decoded} : classify raw = .valid dec ↔
    ¬ lineDetect raw = true ∧ ¬ rangeDetect (decodedField raw) = true ∧ decodedField raw = dec := by
  simp [classify_eq_iff]

/-- The class depends on the line-fault detector and the decoded field only (R119). -/
theorem classify_congr {raw raw' : Word} (hl : lineDetect raw = lineDetect raw')
    (hd : decodedField raw = decodedField raw') : classify raw = classify raw' := by
  rw [classify, classify, hl, hd]

theorem exec_classify (s : State) (raw : Word) :
    exec (.classify raw) s = .next { s with result := .classified (classify raw) } := rfl

/-! ## The statements -/

/-- Settles O29: Valid is the class of a word on which neither detector fires. -/
theorem validExactlyWhenNoFaultIsDetected : Obligations.ValidExactlyWhenNoFaultIsDetected := by
  intro raw d
  rw [classify_eq_valid_iff, lineDetect_iff, rangeDetect_decodedField_iff, decodedField_eq_iff]
  simp only [not_or, not_lt, Bool.not_eq_true, ne_eq, and_assoc]

/-- Settles O30: the line-fault detector decides first, the range comparator after it. -/
theorem lineFaultComesBeforeRangeFault : Obligations.LineFaultComesBeforeRangeFault := by
  intro raw
  refine ⟨classify_eq_lineFault_iff.trans lineDetect_iff, fun d => ?_⟩
  rw [classify_eq_rangeFault_iff, lineDetect_iff, rangeDetect_decodedField_iff, decodedField_eq_iff]

/-- Settles O31: both words have the same bit 2 and the same decoded field. -/
theorem lowBitsDoNotChangeTheClass : Obligations.LowBitsDoNotChangeTheClass := by
  intro raw raw' h h' hhigh
  refine classify_congr ?line ?field
  case line =>
    rw [lineDetect_of_ne_zero h, lineDetect_of_ne_zero h', Bool.eq_iff_iff, getLsbD_two_iff, getLsbD_two_iff, hhigh]
  case field =>
    rw [decodedField_eq_iff, decodedField_toNat]
    omega

/-- Settles O24: `exec_classify`, with each detector and the field read in naturals. -/
theorem classifyReturnsTheClass : Obligations.ClassifyReturnsTheClass := by
  intro s raw
  rw [exec_classify, classify]
  simp only [lineDetect_iff, getLsbD_two_iff, rangeDetect_decodedField_iff, ← decodedField_eq_ofNat]

end Sys2Proof.Machine
end

section
/-! PROOFS of 44_averaging_filter: the meanings of AVG_INIT and AVG_UPDATE, the logical window they act on, and the filter's output. -/

namespace Sys2Proof.Machine

/-! ## The meanings -/

theorem exec_avgInit (s : State) : exec .avgInit s = .next s.initWindows := rfl

theorem initWindows_on {s : State} (ha : s.params.avgEnabled = true) :
    s.initWindows = { s with windows := List.replicate s.params.deviceCount.toNat (initWindow s.params) } := by
  simp [State.initWindows, ha]

theorem initWindows_off {s : State} (ha : s.params.avgEnabled = false) : s.initWindows = s := by
  simp [State.initWindows, ha]

/-- The window of AVG_INIT, in plain arithmetic (R128). -/
theorem initWindow_eq (p : Params) :
    initWindow p = { slots := List.replicate (2 ^ p.windowBits) 100, head := 0, sum := 100 * 2 ^ p.windowBits } := by
  simp [initWindow, Params.windowSize, initValue, Nat.shiftLeft_eq]

theorem exec_avgUpdate (s : State) (d : DevIdx) (v : Decoded) :
    exec (.avgUpdate d v) s =
      andThen (s.avgUpdate (eff s.params d) v) fun r => .next { r.1 with result := .mean r.2 } := rfl

/-- AVG_UPDATE goes on where its slot exists (R129). -/
theorem exec_avgUpdate_on {s : State} {d : DevIdx} {v old : Decoded} {w : Window} (ha : s.params.avgEnabled = true)
    (hw : s.windows[eff s.params d]? = some w) (ho : w.slots[w.head]? = some old) :
    exec (.avgUpdate d v) s = .next
      { s with
        windows := s.windows.set (eff s.params d) (w.insert s.params.windowBits old v).1
        result := .mean (w.insert s.params.windowBits old v).2 } := by
  simp [exec_avgUpdate, State.avgUpdate, ha, hw, ho]

theorem exec_avgUpdate_off {s : State} {d : DevIdx} {v : Decoded} (ha : s.params.avgEnabled = false) :
    exec (.avgUpdate d v) s = .next { s with result := .mean v } := by
  simp [exec_avgUpdate, State.avgUpdate, ha]

/-- A well-formed AVG_UPDATE is one of a valid value (R129). -/
theorem wellFormed_avgUpdate_iff {d : DevIdx} {v : Decoded} :
    (Instr.avgUpdate d v).wellFormed = true ↔ 10 ≤ v.toNat ∧ v.toNat ≤ 1200 := by
  simp [Instr.wellFormed, rangeLo, rangeHi]

/-- What AVG_UPDATE returns for a valid value lies in [10, 1200], with averaging and without (R131, R132). -/
theorem State.Inv.avgUpdate_range {s u : State} {d : Nat} {v m : Decoded} (hi : s.Inv) (hp : s.phase ≠ .unconfigured)
    (hf : s.fsm ≠ .setupInit) (hv : 10 ≤ v.toNat ∧ v.toNat ≤ 1200) (h : s.avgUpdate d v = .next (u, m)) :
    10 ≤ m.toNat ∧ m.toNat ≤ 1200 := by
  rcases avgUpdate_cases h with ⟨-, -, rfl⟩ | ⟨ha, w, old, hw, ho, -, rfl⟩
  · exact hv
  · obtain ⟨-, hfits⟩ := hi.windows ha
    have hmem := List.mem_of_getElem? hw
    obtain ⟨-, -, hrange⟩ := insert_keeps (hfits w hmem) (hi.sound hp hf w hmem) ho hv
    exact hrange

/-! ## The logical window (R127) -/

@[simp] theorem Window.logical_length (k : Nat) (w : Window) : (w.logical k).length = 2 ^ k := by
  simp [Window.logical]

theorem Window.logical_getElem {k j : Nat} {w : Window} (h : j < (w.logical k).length) :
    (w.logical k)[j] = w.slots.getD ((w.head + 2 ^ k - 1 - j) % 2 ^ k) 0 := by
  simp [Window.logical]

/-- The oldest value of the logical window stands at the head of the circular buffer. -/
theorem Window.logical_getLast? {k : Nat} {w : Window} (hl : w.slots.length = 2 ^ k) (hh : w.head < 2 ^ k) :
    (w.logical k).getLast? = w.slots[w.head]? := by
  have hlast : (w.head + 2 ^ k - 1 - (2 ^ k - 1)) % 2 ^ k = w.head := by
    rw [show w.head + 2 ^ k - 1 - (2 ^ k - 1) = w.head by omega, Nat.mod_eq_of_lt hh]
  rw [List.getLast?_eq_getElem?, Window.logical_length,
    List.getElem?_eq_getElem (by rw [Window.logical_length]; omega), Window.logical_getElem, hlast]
  simp [List.getElem?_eq_getElem (hl ▸ hh)]

/-- A step of less than a whole turn leads away from the head. -/
theorem add_mod_ne_self {n h i : Nat} (hh : h < n) (hpos : 0 < i) (hi : i < n) : (h + i) % n ≠ h := by
  by_cases hw : h + i < n
  · rw [Nat.mod_eq_of_lt hw]
    omega
  · rw [Nat.mod_eq_sub_mod (by omega), Nat.mod_eq_of_lt (by omega)]
    omega

/-- Where value j stands once the head has moved on by one, counted from the head before. -/
theorem slot_of_next_head {n h j : Nat} (hj : j < n) : ((h + 1) % n + n - 1 - j) % n = (h + (n - j)) % n := by
  rw [show (h + 1) % n + n - 1 - j = (h + 1) % n + (n - 1 - j) by omega, Nat.mod_add_mod,
    show h + 1 + (n - 1 - j) = h + (n - j) by omega]

/-- AVG_UPDATE shifts the logical window by one: v comes in where the head stood, and the oldest value drops out (R127). -/
theorem Window.insert_logical {k : Nat} {w : Window} {old v : Decoded} (hl : w.slots.length = 2 ^ k)
    (hh : w.head < 2 ^ k) : (w.insert k old v).1.logical k = v :: (w.logical k).dropLast := by
  have hpos : 0 < 2 ^ k := by positivity
  apply List.ext_getElem
  · simp only [Window.logical_length, List.length_cons, List.length_dropLast]
    omega
  intro j hj _
  have hj : j < 2 ^ k := by simpa using hj
  simp only [Window.logical_getElem, Window.insert, slot_of_next_head hj]
  cases j with
  | zero => simp [Nat.mod_eq_of_lt hh, hl, hh]
  | succ j =>
    have hne : (w.head + (2 ^ k - (j + 1))) % 2 ^ k ≠ w.head := add_mod_ne_self hh (by omega) (by omega)
    simp only [List.getElem_cons_succ, List.getElem_dropLast, Window.logical_getElem, List.getD_eq_getElem?_getD,
      List.getElem?_set_ne hne.symm]
    rw [show w.head + 2 ^ k - 1 - j = w.head + (2 ^ k - (j + 1)) by omega]

/-! ## The values a window remembers (R134) -/

/-- The window holds the values xs, oldest first: its logical window lists them, and its sum register adds them up. -/
structure Window.Holds (k : Nat) (w : Window) (xs : List Decoded) : Prop where
  length : w.slots.length = 2 ^ k
  head : w.head < 2 ^ k
  logical : w.logical k = xs.reverse
  sum : w.sum = (xs.map BitVec.toNat).sum

/-- The mean of N = 2^k values, as AVG_UPDATE returns it (R129). -/
def meanOf (k : Nat) (xs : List Decoded) : Decoded := BitVec.ofNat 13 ((xs.map BitVec.toNat).sum / 2 ^ k)

/-- The mean of N valid values is exact: it fits the 13 bits (R131). -/
theorem meanOf_toNat {k : Nat} {xs : List Decoded} (hl : xs.length = 2 ^ k)
    (hr : ∀ x ∈ xs, 10 ≤ x.toNat ∧ x.toNat ≤ 1200) :
    (meanOf k xs).toNat = (xs.map BitVec.toNat).sum / 2 ^ k := by
  obtain ⟨-, hsum⟩ := sum_bounds hr
  have hmean : (xs.map BitVec.toNat).sum / 2 ^ k ≤ 1200 := Nat.div_le_of_le_mul (by rwa [mul_comm, ← hl])
  rw [meanOf, BitVec.toNat_ofNat, Nat.mod_eq_of_lt (by omega)]

/-- AVG_INIT leaves a window that holds INIT_VALUE N times (R128). -/
theorem initWindow_holds (p : Params) :
    (initWindow p).Holds p.windowBits (List.replicate (2 ^ p.windowBits) initValue) where
  length := by simp [initWindow, Params.windowSize]
  head := by simp [initWindow]
  logical := by
    apply List.ext_getElem
    · simp
    · intro j hj _
      have hlt : (2 ^ p.windowBits - 1 - j) % 2 ^ p.windowBits < 2 ^ p.windowBits := Nat.mod_lt _ (by positivity)
      simp [Window.logical_getElem, initWindow, Params.windowSize, hlt]
  sum := by simp [initWindow, Nat.shiftLeft_eq, mul_comm]

/-- The oldest value a window holds is the one at its head. -/
theorem Window.Holds.oldest {k : Nat} {w : Window} {xs : List Decoded} (h : w.Holds k xs) :
    ∃ old ys, w.slots[w.head]? = some old ∧ xs = old :: ys := by
  have hlast : xs.head? = w.slots[w.head]? := by
    rw [← Window.logical_getLast? h.length h.head, h.logical, List.getLast?_reverse]
  have hget := List.getElem?_eq_getElem (h.length ▸ h.head)
  obtain ⟨ys, hys⟩ := List.head?_eq_some_iff.1 (hlast.trans hget)
  exact ⟨_, ys, hget, hys⟩

/-- An insertion drops the oldest value a window holds, adds v as the newest, and returns their mean (R129). -/
theorem Window.Holds.insert {k : Nat} {w : Window} {old : Decoded} {ys : List Decoded} (h : w.Holds k (old :: ys))
    (v : Decoded) :
    (w.insert k old v).1.Holds k (ys ++ [v]) ∧ (w.insert k old v).2 = meanOf k (ys ++ [v]) := by
  have hsum : w.sum + v.toNat - old.toNat = ((ys ++ [v]).map BitVec.toNat).sum := by
    simp only [h.sum, List.map_cons, List.map_append, List.map_nil, List.sum_cons, List.sum_append, List.sum_nil]
    omega
  refine ⟨⟨?_, ?_, ?_, hsum⟩, ?_⟩
  · simp [Window.insert, h.length]
  · exact Nat.mod_lt _ (by positivity)
  · simp [Window.insert_logical h.length h.head, h.logical]
  · simp only [Window.insert, meanOf, hsum, Nat.shiftRight_eq_div_pow]

/-- Averaging is on, and the window of device d holds xs. -/
def State.Remembers (s : State) (d : DevIdx) (xs : List Decoded) : Prop :=
  s.params.avgEnabled = true ∧ ∃ w, s.windows[eff s.params d]? = some w ∧ w.Holds s.params.windowBits xs

theorem initWindows_remembers {s : State} (ha : s.params.avgEnabled = true) (d : DevIdx) :
    s.initWindows.Remembers d (List.replicate (2 ^ s.params.windowBits) initValue) :=
  ⟨ha, initWindow s.params, by simp [State.initWindows, ha, eff_lt], initWindow_holds _⟩

/-- AVG_UPDATE on a device that remembers xs: it forgets the oldest value for v, and returns the mean (R129, R134). -/
theorem State.Remembers.avgUpdate {s : State} {d : DevIdx} {xs : List Decoded} (h : s.Remembers d xs) (v : Decoded) :
    ∃ t, exec (.avgUpdate d v) s = .next t ∧ t.params = s.params ∧ t.Remembers d (xs.tail ++ [v]) ∧
      t.result = .mean (meanOf s.params.windowBits (xs.tail ++ [v])) := by
  obtain ⟨ha, w, hw, hholds⟩ := h
  obtain ⟨old, ys, hold, rfl⟩ := hholds.oldest
  obtain ⟨hnew, hmean⟩ := hholds.insert v
  have hlt := (List.getElem?_eq_some_iff.1 hw).1
  exact ⟨_, exec_avgUpdate_on ha hw hold, rfl, ⟨ha, _, List.getElem?_set_self hlt, hnew⟩, congrArg _ hmean⟩

/-! ## Feeding the filter (R134) -/

@[simp] theorem lastOf_nil (n : Nat) : lastOf n [] = List.replicate n initValue := by simp [lastOf]

@[simp] theorem lastOf_length (n : Nat) (vs : List Decoded) : (lastOf n vs).length = n := by simp [lastOf]

/-- One more value pushes the oldest out of the last n. -/
theorem lastOf_concat {n : Nat} (hn : 0 < n) (vs : List Decoded) (v : Decoded) :
    lastOf n (vs ++ [v]) = (lastOf n vs).tail ++ [v] := by
  rw [lastOf, lastOf, List.tail_drop, ← List.append_assoc, List.length_append, List.length_singleton,
    List.drop_append_of_le_length (by simp; omega)]

theorem lastOf_range {n : Nat} {vs : List Decoded} (h : ∀ x ∈ vs, 10 ≤ x.toNat ∧ x.toNat ≤ 1200) :
    ∀ x ∈ lastOf n vs, 10 ≤ x.toNat ∧ x.toNat ≤ 1200 := by
  intro x hx
  rcases List.mem_append.1 (List.mem_of_mem_drop hx) with hx | hx
  · rw [List.eq_of_mem_replicate hx]
    decide
  · exact h x hx

/-- Feeding one more value is one more AVG_UPDATE. -/
theorem feed_concat (d : DevIdx) (vs : List Decoded) (v : Decoded) (s : State) :
    feed d (vs ++ [v]) s = andThen (feed d vs s) (exec (.avgUpdate d v)) := by
  induction vs generalizing s with
  | nil =>
    simp only [List.nil_append, feed, andThen_next]
    cases exec (.avgUpdate d v) s <;> rfl
  | cons x xs ih =>
    simp only [List.cons_append, feed]
    cases exec (.avgUpdate d x) s with
    | next t => exact ih t
    | fault r => rfl
    | refused r => rfl

/-- After AVG_INIT and any values, the device remembers the last N of them, INIT_VALUE before the first: the induction of R134. -/
theorem feed_remembers {s : State} (ha : s.params.avgEnabled = true) (d : DevIdx) (vs : List Decoded) :
    ∃ t, feed d vs s.initWindows = .next t ∧ t.params = s.params ∧
      t.Remembers d (lastOf (2 ^ s.params.windowBits) vs) := by
  induction vs using List.reverseRecOn with
  | nil => exact ⟨_, rfl, rfl, by simpa using initWindows_remembers ha d⟩
  | append_singleton vs v ih =>
    obtain ⟨t, ht, hp, hrem⟩ := ih
    obtain ⟨u, hu, hpu, hremu, -⟩ := hrem.avgUpdate v
    rw [feed_concat, ht, lastOf_concat (by positivity)]
    exact ⟨u, hu, hpu.trans hp, hremu⟩

/-! ## The statements -/

/-- Settles O33: before the last value the device remembers the last N values, and AVG_UPDATE returns the mean of what it then remembers. -/
theorem filterReturnsTheMeanOfTheLastN : Obligations.FilterReturnsTheMeanOfTheLastN := by
  intro s s0 d vs v ha hinit hrange
  cases hinit
  obtain ⟨t, ht, hp, hrem⟩ := feed_remembers ha d vs
  obtain ⟨u, hu, -, -, hres⟩ := hrem.avgUpdate v
  rw [hp, ← lastOf_concat (by positivity)] at hres
  exact ⟨u, _, by rw [feed_concat, ht]; exact hu, hres, meanOf_toNat (lastOf_length _ _) (lastOf_range hrange)⟩

/-- Settles O9: the invariant holds at the end of every run from reset, and past SETUP it makes every window sound. -/
theorem windowSumsAreTheSumsOfTheirSlots : Obligations.WindowSumsAreTheSumsOfTheirSlots := by
  intro p e c n hp ha
  obtain ⟨t, ht, hi, rfl⟩ := runFor_reset_inv hp e c n
  obtain ⟨hlen, hfits⟩ := hi.windows ha
  refine ⟨t, ht, hlen, fun hph hf w hw => ?_⟩
  obtain ⟨hslots, -, -⟩ := hfits w hw
  exact ⟨hslots, hi.sound hph hf w hw⟩

/-- Settles O28: under the invariant the slot at the head exists, and the mean of a sound window is in range. -/
theorem avgUpdateStaysInRange : Obligations.AvgUpdateStaysInRange := by
  intro s d v hi hp hf hv
  obtain ⟨⟨u, m⟩, h⟩ := hi.avgUpdate_next d v
  exact ⟨_, m, by rw [exec_avgUpdate, h, andThen_next], rfl, hi.avgUpdate_range hp hf (wellFormed_avgUpdate_iff.1 hv) h⟩

/-- Settles O32: `Window.insert_logical`. -/
theorem insertShiftsTheLogicalWindow : Obligations.InsertShiftsTheLogicalWindow :=
  fun _ _ _ _ hl hh _ => Window.insert_logical hl hh

/-- Settles O25: `initWindows` with averaging and without, and the window it writes. -/
theorem avgInitFillsEveryWindow : Obligations.AvgInitFillsEveryWindow := by
  intro s
  rw [exec_avgInit]
  exact ⟨fun ha => by rw [initWindows_on ha, initWindow_eq], fun ha => by rw [initWindows_off ha]⟩

/-- Settles O26: the insertion, with its shift by k read as a division by N. -/
theorem avgUpdateReplacesTheOldest : Obligations.AvgUpdateReplacesTheOldest := by
  intro s d v old w ha hw ho
  rw [exec_avgUpdate_on ha hw ho]
  simp only [Window.insert, Nat.shiftRight_eq_div_pow]

/-- Settles O27: `exec_avgUpdate_off`. -/
theorem avgUpdateIsIdentityWhenOff : Obligations.AvgUpdateIsIdentityWhenOff :=
  fun _ _ _ ha => exec_avgUpdate_off ha

end Sys2Proof.Machine
end

section
/-! PROOFS of 45_top_level: the command port, the phase check, the run of a SETUP, and the answer of a READ. -/

namespace Sys2Proof.Machine

/-! ## The command port -/

/-- Outside IDLE only `rst` decides what the command port gives (R25, R146). -/
theorem fetch_outside_idle {s : State} (hf : s.fsm ≠ .idle) (i : Inputs) (rest : List Inputs) :
    { s with env := i :: rest }.fetch = if i.rst then .reset else .busy := by
  simp [State.fetch, State.inputs, hf]

/-- Settles O15: of a cycle's inputs a busy core reads `rst`, `bus_ready` and `miso`, and these are the same. -/
theorem busyCoreIgnoresTheCommandPort : Obligations.BusyCoreIgnoresTheCommandPort := by
  intro s i rest v c hf
  rw [step_with_inputs, step_with_inputs, fetch_outside_idle hf, fetch_outside_idle hf]

/-! ## A cycle of IDLE -/

section
variable {s : State} (hi : s.Inv)
include hi

/-- In IDLE the byte engine rests, so a cycle begins with nothing but the pulses' fall (R59). -/
theorem State.Inv.beginCycle_idle (hf : s.fsm = .idle) : s.beginCycle = s.clearPulses :=
  beginCycle_rest (hi.atRest (hf ▸ rfl)).1

/-- The cycle that accepts a command runs it on the state whose pulses have fallen (R135). -/
theorem State.Inv.step_command {c : Byte} {i : Instr} {t : State} (ha : s.accepts c) (hd : decode c = .instr i)
    (ht : exec i s.clearPulses = .next t) : step s = .next (s.endCycle t) := by
  rw [step_accept ha hd, hi.beginCycle_idle ha.1, ht, andThen_next]

end

/-- Settles O12: the cycle's beginning is the pulses' fall where the byte engine rests, as it does in IDLE. -/
theorem stepRunsTheAcceptedCommand : Obligations.StepRunsTheAcceptedCommand :=
  ⟨fun _ _ _ => step_accept, fun _ => beginCycle_rest,
    fun _ hi hf hr hv => by rw [step_quiet hr hf hv, hi.beginCycle_idle hf]; rfl⟩

/-- Settles O13: ILLEGAL is laid over the pulses' fall. -/
theorem illegalWordIsAnsweredIllegal : Obligations.IllegalWordIsAnsweredIllegal := by
  intro s c why hi ha hd
  rw [step_illegal ha hd, hi.beginCycle_idle ha.1]
  rfl

/-! ## The phase check (R137) -/

theorem exec_setup (s : State) : exec .setup s = .next (s.deselectAll.enterWait s.params.cSetup .setupInit) := rfl

/-- Settles O18: every phase allows SETUP. -/
theorem setupAcceptanceEffect : Obligations.SetupAcceptanceEffect := exec_setup

theorem decode_readWord {c : Byte} (h : c = 0x30 ∨ c = 0x31) : ∃ dev, decode c = .instr (.read dev) := by
  rcases h with rfl | rfl
  · exact ⟨0, rfl⟩
  · exact ⟨1, rfl⟩

/-- Settles O14: each legal word with its command, allowed and refused. -/
theorem phaseCheckRefusesOutOfOrder : Obligations.PhaseCheckRefusesOutOfOrder := by
  refine fun s c hi ha => ⟨?setup, ?startAll, ?read, ?refused⟩
  case setup =>
    rintro rfl
    exact ⟨_, hi.step_command ha rfl (exec_setup _), rfl⟩
  case startAll =>
    rintro rfl hp
    have hp : s.phase ≠ .unconfigured := by rcases hp with h | h <;> simp [h]
    exact ⟨_, hi.step_command (i := .startAll) ha rfl (exec_startAll_allowed hp), rfl⟩
  case read =>
    intro hc hp
    obtain ⟨dev, hd⟩ := decode_readWord hc
    exact ⟨_, hi.step_command ha hd (exec_read_allowed hp), rfl⟩
  case refused =>
    rintro (⟨rfl, hp⟩ | ⟨hc, hp⟩)
    · exact hi.step_command (i := .startAll) ha rfl (exec_startAll_refused hp)
    · obtain ⟨dev, hd⟩ := decode_readWord hc
      exact hi.step_command ha hd (exec_read_refused hp)

/-! ## The run of a SETUP (R140, R145) -/

/-- The last cycle of SETUP_INIT (R140). -/
theorem step_setupInit_over {s : State} (hi : s.Inv) (hr : s.inputs.rst = false) (hf : s.fsm = .setupInit)
    (hd : s.dlyCnt = 0) : step s = .next (s.endCycle s.clearPulses.finishSetup) := by
  have hover : s.clearPulses.setupInit = s.clearPulses.finishSetup := if_pos hd
  rw [step_setupInit hr hf, beginCycle_rest (hi.atRest (hf ▸ rfl)).1, hover]

theorem runFor_rst {n : Nat} {s t : State} (h : runFor n s = .next t) (hr : s.noReset (n + 1)) :
    t.inputs.rst = false := by
  rw [runFor_inputs h]
  exact hr n n.lt_succ_self

/-- SETUP_INIT lasts C_SETUP cycles from the one after the acceptance (R23, R139). -/
theorem setup_waits {s₀ : State} (hi : s₀.Inv) (ha : s₀.accepts 0x10) {c : Nat} (hc : c < s₀.params.cSetup)
    (hr : s₀.noReset (c + 1)) : ∃ s, runFor (c + 1) s₀ = .next s ∧ s.fsm = .setupInit ∧
      s.dlyCnt + c + 1 = s₀.params.cSetup ∧ s.faultCode = s₀.faultCode := by
  induction c with
  | zero =>
    have hstep := hi.step_command (i := .setup) ha rfl (exec_setup _)
    refine ⟨_, runFor_snoc (runFor_zero _) hstep, rfl, ?_, rfl⟩
    show s₀.params.cSetup - 1 + 0 + 1 = s₀.params.cSetup
    omega
  | succ c ih =>
    obtain ⟨s, hrun, hf, hd, hcode⟩ := ih (by omega) (noReset_mono hr (by omega))
    obtain ⟨ws, -, hstep⟩ := step_wait_on (runFor_inv hi hrun) (runFor_rst hrun hr) (by omega) (.inr (.inl hf))
    refine ⟨_, runFor_snoc hrun hstep, hf, ?_, hcode⟩
    show s.dlyCnt - 1 + (c + 1) + 1 = _
    omega

/-- The windows AVG_INIT leaves, in plain arithmetic; without averaging there are none (R53, R128, R132). -/
theorem State.Inv.initWindows_filled {s : State} (hi : s.Inv) :
    (s.params.avgEnabled = true → s.initWindows.windows = List.replicate s.params.deviceCount.toNat
      { slots := List.replicate (2 ^ s.params.windowBits) 100, head := 0, sum := 100 * 2 ^ s.params.windowBits }) ∧
    (s.params.avgEnabled = false → s.initWindows.windows = []) :=
  ⟨fun hon => by rw [initWindows_on hon, initWindow_eq], fun hoff => by rw [initWindows_off hoff, hi.noWindows hoff]⟩

/-- Settles O48: the run reaches the last cycle of SETUP_INIT, which writes every window and answers. -/
theorem setupCompletesOnTime : Obligations.SetupCompletesOnTime := by
  intro s hi ha hr
  obtain ⟨-, -, -, -, -, hsetup, -⟩ := Params.of_wf hi.params
  obtain ⟨c, hc⟩ := Nat.exists_eq_add_of_le' hsetup
  rw [hc] at hr ⊢
  obtain ⟨d, hrun, hf, hd, hcode⟩ := setup_waits hi ha (c := c) (by omega) (noReset_mono hr (by omega))
  have hid := runFor_inv hi hrun
  have hp := runFor_params hrun
  have hend := runFor_snoc hrun (step_setupInit_over hid (runFor_rst hrun hr) hf (by omega))
  have hlines : d.csN = allOnes s.params := hp ▸ hid.csN_rest (hf ▸ rfl) (by simp [hf])
  have hwindows := hid.clearPulses.initWindows_filled
  rw [clearPulses_params, hp] at hwindows
  exact ⟨_, hend, rfl, rfl, rfl, rfl, rfl, rfl, hcode, hlines, hwindows⟩

/-! ## The answer of a READ (R142, R148) -/

/-- A time-out is never classified (R142, R143). -/
theorem deselected_timeout {s : State} (hf : s.toFlag = true) : s.deselected = .next
    { s.takeFault s.params.busTimeoutCode s.params.busTimeoutCode with toFlag := false, fsm := .idle } := by
  simp [State.deselected, State.reportRead, hf]

@[simp] theorem zext16_toNat (v : Decoded) : (zext16 v).toNat = v.toNat :=
  BitVec.toNat_setWidth_of_le (by decide)

/-- DESELECTED clears the time-out's flag and leaves the lines and the lock (R142). -/
theorem deselected_rests {s t : State} (h : s.deselected = .next t) :
    t.toFlag = false ∧ t.csN = s.csN ∧ t.busLock = s.busLock := by
  rcases deselected_cases h with ⟨-, rfl⟩ | ⟨-, -, rfl⟩ | ⟨-, x, -, rfl⟩ | ⟨-, x, u, m, -, hu, rfl⟩
  · exact ⟨rfl, rfl, rfl⟩
  · exact ⟨rfl, rfl, rfl⟩
  · exact ⟨rfl, rfl, rfl⟩
  · obtain ⟨ws, rfl⟩ := avgUpdate_frame hu
    exact ⟨rfl, rfl, rfl⟩

/-- The value DESELECTED answers lies in R148's set. -/
theorem State.Inv.deselected_rspData {s t : State} (hi : s.Inv) (hf : s.fsm = .deselected)
    (h : s.deselected = .next t) :
    (10 ≤ t.rspData.toNat ∧ t.rspData.toNat ≤ 1200) ∨ t.rspData = 0xFFFF ∨ t.rspData = 0x0FFF ∨
      (s.params.busTimeout ≠ none ∧ t.rspData = s.params.busTimeoutCode) := by
  rcases deselected_cases h with ⟨hflag, rfl⟩ | ⟨-, -, rfl⟩ | ⟨-, x, -, rfl⟩ | ⟨-, x, u, m, hx, hu, rfl⟩
  · exact .inr (.inr (.inr ⟨(hi.toFlag hflag).2, rfl⟩))
  · exact .inr (.inl rfl)
  · exact .inr (.inr (.inl rfl))
  · have hrange := hi.avgUpdate_range (by simp [hi.readPhase (.inr hf)]) (by simp [hf]) (classify_valid_range hx) hu
    exact .inl (by simpa using hrange)

/-- Settles O44: the DESELECTED cycle answers, on the state whose pulses have fallen. -/
theorem readResultsStayInTheirSet : Obligations.ReadResultsStayInTheirSet := by
  intro s hi hr hf
  obtain ⟨u, hu, hstep⟩ := hi.step_deselected_next hr hf
  obtain ⟨-, -, hstatus⟩ := deselected_answers hu
  obtain ⟨-, -, -, hvalid, -⟩ := deselected_records hu
  have hset := hi.clearPulses.deselected_rspData hf hu
  exact ⟨_, hstep, hvalid, hstatus, hset⟩

/-- The DESELECTED cycle of a READ with a valid value: no fault event, and the value or, with averaging, the mean (R142). -/
theorem State.Inv.deselected_valid_reports {s u : State} {x : Decoded} (hi : s.Inv) (hflag : s.toFlag = false)
    (hc : classify s.sr = .valid x) (hu : s.clearPulses.deselected = .next u) :
    u.faultValid = false ∧ u.faultCode = s.faultCode ∧
    (s.params.avgEnabled = false → u.rspData = x.setWidth 16 ∧ u.windows = s.windows) ∧
    (s.params.avgEnabled = true → ∃ v m, exec (.avgUpdate s.curDev x) s = .next v ∧
      v.result = .mean m ∧ u.windows = v.windows ∧ u.rspData = m.setWidth 16) := by
  obtain ⟨⟨v, m⟩, hv⟩ := hi.avgUpdate_next s.curDev x
  obtain ⟨v', hv', hw⟩ := avgUpdate_congr (s := s) (s' := s.clearPulses) rfl rfl hv
  obtain rfl := Host.Outcome.next.inj (hu.symm.trans (deselected_valid (s := s.clearPulses) hflag hc hv'))
  obtain ⟨ws, rfl⟩ := avgUpdate_frame hv'
  refine ⟨rfl, rfl, fun hoff => ?off, fun _ => ?on⟩
  case off =>
    rcases avgUpdate_cases hv with ⟨-, rfl, rfl⟩ | ⟨hon, -⟩
    · exact ⟨rfl, hw⟩
    · simp [hoff] at hon
  case on =>
    have hexec : exec (.avgUpdate s.curDev x) s = .next { v with result := .mean m } := by
      rw [exec_avgUpdate, hv, andThen_next]
    exact ⟨_, m, hexec, rfl, hw, rfl⟩

/-- Settles O39: the lines and the lock rest already, and each class has its one answer. -/
theorem deselectedReportsTheOutcome : Obligations.DeselectedReportsTheOutcome := by
  intro s hi hr hf
  obtain ⟨hlines, hlock⟩ := hi.rests (.inr hf)
  obtain ⟨u, hu, hstep⟩ := hi.step_deselected_next hr hf
  obtain ⟨hidle, hsr, hstatus⟩ := deselected_answers hu
  obtain ⟨-, -, hphase, hvalid, -⟩ := deselected_records hu
  obtain ⟨hflag, hcs, hbus⟩ := deselected_rests hu
  have hreport (x : Decoded) (ht : s.toFlag = false) (hc : classify s.sr = .valid x) :=
    hi.deselected_valid_reports ht hc hu
  refine ⟨hlines, hlock, _, hstep, hidle, hflag, hvalid, hstatus, hphase, hcs, hbus, hsr,
    fun ht => ?timeout, fun ht hc => ?line, fun x ht hc => ?range, hreport⟩
  case timeout =>
    obtain rfl := Host.Outcome.next.inj (hu.symm.trans (deselected_timeout (s := s.clearPulses) ht))
    exact ⟨rfl, rfl, rfl, rfl⟩
  case line =>
    obtain rfl := Host.Outcome.next.inj (hu.symm.trans (deselected_lineFault (s := s.clearPulses) ht hc))
    exact ⟨rfl, rfl, rfl, rfl⟩
  case range =>
    obtain rfl := Host.Outcome.next.inj (hu.symm.trans (deselected_rangeFault (s := s.clearPulses) ht hc))
    exact ⟨rfl, rfl, rfl, rfl⟩

end Sys2Proof.Machine
end

section
/-! PROOFS of 60_exceptions: the cycle that raises a fault event, and what the event's code tells. -/

namespace Sys2Proof.Machine

/-! ## The cycle of a fault event -/

/-- The fault table (R149): what a READ that ends in `s` reports, its code and its response's data, by the cause. -/
inductive State.ReportsFault (s : State) : Word → Word → Prop where
  /-- BusTimeout (R152) -/
  | timeout (hflag : s.toFlag = true) : s.ReportsFault s.params.busTimeoutCode s.params.busTimeoutCode
  /-- LineFault (R150) -/
  | line (hflag : s.toFlag = false) (hc : classify s.sr = .lineFault) : s.ReportsFault lineCode lineCode
  /-- RangeFault (R151) -/
  | range {x : Decoded} (hflag : s.toFlag = false) (hc : classify s.sr = .rangeFault x) :
    s.ReportsFault (zext16 x) rangeSentinel

/-- The end of a READ that takes a fault: the event and the sentinel, and the core is back in IDLE (R155, R158). -/
def State.endFaultedRead (code sentinel : Word) (s : State) : State :=
  { s.takeFault code sentinel with toFlag := false, fsm := .idle }

/-- DESELECTED, on the state whose pulses have fallen, raises an event only by a row of the fault table (R149, R153). -/
theorem deselected_faults {s u : State} (h : s.clearPulses.deselected = .next u) (hv : u.faultValid = true) :
    ∃ code sentinel, s.ReportsFault code sentinel ∧ u = s.endFaultedRead code sentinel := by
  rcases deselected_cases h with ⟨ht, rfl⟩ | ⟨ht, hc, rfl⟩ | ⟨ht, x, hc, rfl⟩ | ⟨-, x, v, m, -, hu, rfl⟩
  · exact ⟨_, _, .timeout ht, rfl⟩
  · exact ⟨_, _, .line ht hc, rfl⟩
  · exact ⟨_, _, .range ht hc, rfl⟩
  · obtain ⟨ws, rfl⟩ := avgUpdate_frame hu
    simp at hv

/-- Only the DESELECTED cycle of a READ raises a fault event (R153). -/
theorem deselected_of_fault {s t : State} (h : step s = .next t) (hv : t.faultValid = true) :
    s.inputs.rst = false ∧ s.fsm = .deselected := by
  rcases step_records h with ⟨-, rfl⟩ | ⟨hr, hk | ⟨st, data, rfl⟩ | ⟨hf, -⟩ | ⟨-, rfl⟩ | ⟨-, -, rfl⟩⟩
  · simp at hv
  · simp [hk.faultValid] at hv
  · simp at hv
  · exact ⟨hr, hf⟩
  · rcases setupInit_cases s.beginCycle with ⟨-, he⟩ | ⟨-, ws, he⟩ <;> simp [he, State.finishSetup] at hv
  · simp at hv

/-- The whole next state of a step that raises a fault event: the byte engine rests, and the event overwrites the pulses' fall. -/
theorem State.Inv.step_fault {s t : State} (hi : s.Inv) (h : step s = .next t) (hv : t.faultValid = true) :
    ∃ code sentinel, s.ReportsFault code sentinel ∧ t = s.endCycle (s.endFaultedRead code sentinel) := by
  obtain ⟨hr, hf⟩ := deselected_of_fault h hv
  obtain ⟨u, hu, hstep⟩ := hi.step_deselected_next hr hf
  obtain rfl := Host.Outcome.next.inj (h.symm.trans hstep)
  obtain ⟨code, sentinel, hrep, rfl⟩ := deselected_faults hu hv
  exact ⟨code, sentinel, hrep, rfl⟩

theorem cmdReady_of_idle {s : State} (hf : s.fsm = .idle) (hr : s.inputs.rst = false) : s.cmdReady = true := by
  simp [State.cmdReady, hf, hr]

/-! ## The codes (R149) -/

/-- A RangeFault's code has 13 bits (R151). -/
theorem zext16_toNat_le (x : Decoded) : (zext16 x).toNat ≤ 0x1FFF := by
  rw [zext16_toNat]
  omega

/-- The three sets of codes are disjoint, so the code tells the cause (R149). -/
theorem State.ReportsFault.code_tells {s : State} {code sentinel : Word} (hp : s.params.wf = true)
    (h : s.ReportsFault code sentinel) :
    (code = s.params.busTimeoutCode ↔ s.toFlag = true) ∧
    (code = 0xFFFF ↔ s.toFlag = false ∧ classify s.sr = .lineFault) ∧
    (code.toNat ≤ 0x1FFF ↔ s.toFlag = false ∧ ∃ x, classify s.sr = .rangeFault x) := by
  obtain ⟨-, -, -, -, -, -, -, hlow, hne⟩ := Params.of_wf hp
  cases h with
  | timeout ht => simp [ht, hne, hlow]
  | line ht hc => simp [ht, hc, lineCode, hne.symm]
  | @range x ht hc =>
    have hle := zext16_toNat_le x
    have htimeout : zext16 x ≠ s.params.busTimeoutCode := fun he => absurd (he ▸ hle) (Nat.not_le.2 hlow)
    have hline : zext16 x ≠ 0xFFFF#16 := fun he => absurd (he ▸ hle) (by decide)
    exact ⟨by simp [ht, htimeout], by simp [hc, hline], iff_of_true hle ⟨ht, x, hc⟩⟩

/-! ## The statements -/

/-- Settles O42: `State.Inv.step_fault`, whose next state writes the event, the response and the return to IDLE. -/
theorem faultEventsLeaveTheMachineGoing : Obligations.FaultEventsLeaveTheMachineGoing := by
  intro s t hi h hv
  obtain ⟨hr, hf⟩ := deselected_of_fault h hv
  obtain ⟨code, sentinel, -, rfl⟩ := hi.step_fault h hv
  exact ⟨hf, hr, rfl, cmdReady_of_idle rfl, rfl, rfl, rfl⟩

/-- Settles O43: the event is a row of the fault table, and the rows' codes are disjoint. -/
theorem faultCodeTellsTheKind : Obligations.FaultCodeTellsTheKind := by
  intro s t hi h hv
  obtain ⟨code, sentinel, hrep, rfl⟩ := hi.step_fault h hv
  exact hrep.code_tells hi.params

end Sys2Proof.Machine
end

section
/-! PROOFS of 70_reset_and_hazards: the reset state's values, and the bounds on a READ's answer, with a time-out and without. -/

namespace Sys2Proof.Machine

/-- Settles O5: every field is the one `State.resetWith` writes. -/
theorem resetStateHoldsResetValues : Obligations.ResetStateHoldsResetValues :=
  ⟨rfl, fun _ => ⟨rfl, rfl, rfl, rfl, rfl, rfl, rfl, rfl, rfl, rfl, rfl, rfl, rfl, rfl, rfl, rfl, rfl, rfl, rfl, rfl, rfl⟩⟩

/-! ## A byte that fills, or runs short -/

theorem readyCycles_length_mono (s : State) (i : Nat) {m n : Nat} (h : m ≤ n) :
    (s.readyCycles i m).length ≤ (s.readyCycles i n).length := by
  obtain ⟨k, rfl⟩ := Nat.exists_eq_add_of_le h
  rw [readyCycles_add, List.length_append]
  exact Nat.le_add_right _ _

/-- A byte with enough ready cycles among its first N fills within them: the ready cycle that completes it is its last. -/
theorem exists_byteFills {s : State} {i N : Nat} (hpos : 1 ≤ s.params.sckDiv)
    (h : 16 * s.params.sckDiv ≤ (s.readyCycles i N).length) :
    ∃ k, 16 * s.params.sckDiv + k ≤ N ∧ s.byteFills i (16 * s.params.sckDiv + k) := by
  induction N with
  | zero => rw [readyCycles_zero, List.length_nil] at h; omega
  | succ N ih =>
    by_cases hN : 16 * s.params.sckDiv ≤ (s.readyCycles i N).length
    · obtain ⟨k, hk, hfill⟩ := ih hN
      exact ⟨k, by omega, hfill⟩
    have hsucc := readyCycles_length_succ s i N
    have hlast : (s.inputAt (i + N)).busReady = true := by
      by_contra hb
      rw [Bool.eq_false_of_not_eq_true hb, Bool.toNat_false] at hsucc
      omega
    rw [hlast, Bool.toNat_true] at hsucc
    obtain ⟨k, hk⟩ := Nat.exists_eq_add_of_le (h.trans (readyCycles_length_le s i (N + 1)))
    exact ⟨k, hk.ge, by rw [← hk]; exact ⟨by omega, hlast⟩⟩

/-! ## The time-out of a READ (R116, R152, R180) -/

/-- The cycle of DESELECTED after a time-out, its whole next state: the event and the response, both BUS_TIMEOUT_CODE (R142, R152). -/
theorem State.Inv.step_deselected_timeout {s : State} (hi : s.Inv) (hr : s.inputs.rst = false)
    (hf : s.fsm = .deselected) (ht : s.toFlag = true) :
    step s = .next (s.endCycle (s.endFaultedRead s.params.busTimeoutCode s.params.busTimeoutCode)) := by
  obtain ⟨u, hu, hstep⟩ := hi.step_deselected_next hr hf
  obtain rfl := Host.Outcome.next.inj (hu.symm.trans (deselected_timeout (s := s.clearPulses) ht))
  exact hstep

/-- A byte that has not seen all its ready cycles is still shifting. -/
theorem ByteStage.active {bit : Nat → Bool} {r : Nat} {s : State} (h : ByteStage bit r s)
    (hlt : r < 16 * s.params.sckDiv) : s.xferActive = true := by
  cases h with
  | shifting hx => exact hx
  | complete hr => omega

/-- A READ accepted in the cycle of s answers BusTimeout c cycles later, with the bus at rest and the windows as they were (R142, R152). -/
def State.timesOutAt (s : State) (c : Nat) : Prop :=
  ∃ t, runFor c s = .next t ∧ t.fsm = .idle ∧ t.rspValid = true ∧
    t.rspStatus = 0b00 ∧ t.rspData = s.params.busTimeoutCode ∧ t.faultValid = true ∧
    t.faultCode = s.params.busTimeoutCode ∧ t.windows = s.windows ∧ t.toFlag = false ∧
    t.csN = List.replicate s.params.deviceCount.toNat true ∧ t.busLock = false

section
variable {s₀ s : State} {dev : DevIdx} {c T : Nat} (h : ReadAt s₀ dev c s) (hi : s₀.Inv)
  (hT : s₀.params.busTimeout = some T)
include h hi hT

/-- A byte of a READ that starts in cycle c and runs short of ready cycles is aborted T cycles later (R116). -/
theorem ReadAt.aborts (hx : s.StartsByte) (h0 : s.toCnt = 0) (hr : s₀.noReset (c + T))
    (hshort : (s₀.readyCycles c (T - 1)).length < 16 * s₀.params.sckDiv) :
    ∃ t, ReadAt s₀ dev (c + T) t ∧ t.fsm = .deselected ∧ t.toFlag = true := by
  obtain ⟨-, -, -, -, -, -, htimeout, -⟩ := Params.of_wf hi.params
  have hlarge := htimeout T hT
  have hlast : c + T = c + (T - 1) + 1 := by omega
  rw [hlast] at hr ⊢
  obtain ⟨t, ht, -, -, hcnt, hst⟩ := h.waits hi hx h0 (n := T - 1)
    (fun b hb => by obtain rfl := Option.some.inj (hT.symm.trans hb); omega) (noReset_mono hr (by omega))
    fun m hm => (readyCycles_length_mono s₀ c hm.le).trans_lt hshort
  have hit := runFor_inv hi ht.run
  obtain ⟨hf, hd⟩ := hit.waits_of_active (hst.active (ht.params ▸ hshort))
  have hstep := step_waiting_aborts (ht.rst hr) hf hd (ht.params ▸ hT) (hcnt T hT)
  exact ⟨_, ht.step hstep (by simp [State.abort]) (by simp [State.abort]) (by simp [State.abort]), rfl, rfl⟩

/-- The abort's READ answers in the cycle after DESELECTED, on a core at rest. -/
theorem ReadAt.times_out (hx : s.StartsByte) (h0 : s.toCnt = 0) (hr : s₀.noReset (c + T + 1))
    (hshort : (s₀.readyCycles c (T - 1)).length < 16 * s₀.params.sckDiv) : s₀.timesOutAt (c + T + 1) := by
  obtain ⟨d, hd, hf, hflag⟩ := h.aborts hi hT hx h0 (noReset_mono hr (by omega)) hshort
  have hstep := (runFor_inv hi hd.run).step_deselected_timeout (hd.rst hr) hf hflag
  rw [hd.params] at hstep
  have hrun := runFor_snoc hd.run hstep
  obtain ⟨hlines, -, hlock, -⟩ := (runFor_inv hi hrun).idle_rests rfl
  rw [runFor_params hrun] at hlines
  exact ⟨_, hrun, rfl, rfl, rfl, rfl, rfl, rfl, hd.windows, rfl, hlines, hlock⟩

end

/-- Settles O55: the MSB byte starts C_LATCH + 2 cycles after the acceptance, and times out. -/
theorem readTimesOutInItsFirstByte : Obligations.ReadTimesOutInItsFirstByte := by
  intro s dev n hi hp ha hT hr hshort
  have hc : s.params.cLatch + 3 + n = msbStart s.params + n + 1 := by unfold msbStart; omega
  rw [hc] at hr ⊢
  obtain ⟨m, h, -, h0, hx⟩ := read_msb_starts hi ha hp (noReset_mono hr (by omega))
  exact h.times_out hi hT hx h0 hr hshort

/-- Settles O59: the LSB byte starts in the cycle after the hand-over, and times out. -/
theorem readTimesOutInItsSecondByte : Obligations.ReadTimesOutInItsSecondByte := by
  intro s dev n k hi hp ha hT hk hr hmsb hshort
  have hc : s.params.cLatch + 4 + 16 * s.params.sckDiv + k + n = lsbStart s.params k + n + 1 := by
    unfold lsbStart; omega
  rw [hc] at hr ⊢
  have hTk (b : Nat) (hb : s.params.busTimeout = some b) : 16 * s.params.sckDiv + k < b :=
    hk.trans_eq (Option.some.inj (hT.symm.trans hb))
  obtain ⟨l, h, -, h0, hx, -⟩ := read_lsb_starts hi ha hp hTk hmsb (noReset_mono hr (by omega))
  exact h.times_out hi hT hx h0 hr hshort

/-! ## Every READ ends (R177) -/

/-- The core answers DONE, back in IDLE, at most n cycles after s (R145, R177). -/
def State.answersWithin (s : State) (n : Nat) : Prop :=
  ∃ m ≤ n, ∃ t, 0 < m ∧ runFor m s = .next t ∧ t.fsm = .idle ∧ t.rspValid = true ∧ t.rspStatus = 0b00

theorem State.timesOutAt.answersWithin {s : State} {c n : Nat} (h : s.timesOutAt c) (hpos : 0 < c) (hc : c ≤ n) :
    s.answersWithin n := by
  obtain ⟨t, hrun, hidle, hvalid, hstatus, -⟩ := h
  exact ⟨c, hc, t, hpos, hrun, hidle, hvalid, hstatus⟩

/-- A READ whose two bytes fill, with k and l stalled cycles, answers in its time (R118). -/
theorem read_answersWithin {s : State} {dev : DevIdx} {k l n : Nat} (hi : s.Inv) (hp : s.phase = .started)
    (ha : s.accepts (wordC8 0x3 dev))
    (hT : ∀ b, s.params.busTimeout = some b → 16 * s.params.sckDiv + k < b ∧ 16 * s.params.sckDiv + l < b)
    (hr : s.noReset n) (hmsb : s.byteFills (msbStart s.params) (16 * s.params.sckDiv + k))
    (hlsb : s.byteFills (lsbStart s.params k) (16 * s.params.sckDiv + l))
    (hn : s.params.cLatch + 5 + 32 * s.params.sckDiv + k + l ≤ n) : s.answersWithin n := by
  obtain ⟨t, hrun, hidle, -, -, -, -, -, hvalid, hstatus, -⟩ :=
    readAnswersAsItsTransaction s dev k l hi hp ha hT (noReset_mono hr hn) hmsb hlsb
  exact ⟨_, hn, t, by omega, hrun, hidle, hvalid, hstatus⟩

/-- Settles O56: each byte fills in the first T − 1 cycles of its wait or times out, and the longest READ times out in its LSB byte. -/
theorem everyReadEndsWithinTheTimeout : Obligations.EveryReadEndsWithinTheTimeout := by
  intro s dev T hi hp ha hT hr
  obtain ⟨hpos, -, -, -, -, -, htimeout, -⟩ := Params.of_wf hi.params
  have hlarge := htimeout T hT
  show s.answersWithin (s.params.cLatch + 3 + 2 * T)
  rcases lt_or_ge (s.readyCycles (msbStart s.params) (T - 1)).length (16 * s.params.sckDiv) with hshort | henough
  · have hout : s.timesOutAt (s.params.cLatch + 3 + T) :=
      readTimesOutInItsFirstByte s dev T hi hp ha hT (noReset_mono hr (by omega)) hshort
    exact hout.answersWithin (by omega) (by omega)
  obtain ⟨k, hk, hmsb⟩ := exists_byteFills hpos henough
  rcases lt_or_ge (s.readyCycles (lsbStart s.params k) (T - 1)).length (16 * s.params.sckDiv) with hshort | henough
  · have hout : s.timesOutAt (s.params.cLatch + 4 + 16 * s.params.sckDiv + k + T) :=
      readTimesOutInItsSecondByte s dev T k hi hp ha hT (by omega) (noReset_mono hr (by omega)) hmsb hshort
    exact hout.answersWithin (by omega) (by omega)
  obtain ⟨l, hl, hlsb⟩ := exists_byteFills hpos henough
  refine read_answersWithin hi hp ha (fun b hb => ?_) hr hmsb hlsb (by omega)
  obtain rfl := Option.some.inj (hT.symm.trans hb)
  omega

/-- The bus is ready in as many cycles as are listed as ready. -/
theorem countP_busReady (s : State) (i n : Nat) :
    (List.range n).countP (fun j => (s.inputAt (i + j)).busReady) = (s.readyCycles i n).length := by
  rw [State.readyCycles, ← List.countP_eq_length_filter, List.range'_eq_map_range, List.countP_map]
  rfl

/-- Settles O57: the MSB byte takes the first 16·SCK_DIV ready cycles and the hand-over at most one, so the rest fill the LSB byte. -/
theorem readEndsOnceTheBusWasReady : Obligations.ReadEndsOnceTheBusWasReady := by
  intro s dev n hi hp ha hT hr hcount
  obtain ⟨hpos, -⟩ := Params.of_wf hi.params
  rw [countP_busReady] at hcount
  change _ ≤ (s.readyCycles (msbStart s.params) n).length at hcount
  obtain ⟨k, hk, hmsb⟩ := exists_byteFills (i := msbStart s.params) (N := n) hpos (by omega)
  have hlsbStart : msbStart s.params + (16 * s.params.sckDiv + k + 1) = lsbStart s.params k := by
    unfold msbStart lsbStart; omega
  have hhand : (s.readyCycles (msbStart s.params) (16 * s.params.sckDiv + k + 1)).length ≤ 16 * s.params.sckDiv + 1 := by
    rw [readyCycles_length_succ, hmsb.1]
    exact Nat.add_le_add_left (Bool.toNat_le _) _
  have hmore : 16 * s.params.sckDiv + k + 1 ≤ n := by
    by_contra hn
    have := readyCycles_length_mono s (msbStart s.params) (Nat.le_of_not_le hn)
    omega
  obtain ⟨r, rfl⟩ := Nat.exists_eq_add_of_le hmore
  rw [readyCycles_add, List.length_append, hlsbStart] at hcount
  obtain ⟨l, hl, hlsb⟩ := exists_byteFills (i := lsbStart s.params k) (N := r) hpos (by omega)
  exact read_answersWithin hi hp ha (by simp [hT]) hr hmsb hlsb (by omega)

end Sys2Proof.Machine
end
